-- ==== Sys2Proof/Word.lean ====
section
/-!
DEFINITION. The bit vectors of the block. No value is wider than 8 bits (20_memory.md R53) but for the
12-bit event word that names a step (30_encoding.md R80).
-/
namespace Sys2Proof

/-- One bit the spec concatenates or complements: the digit select (10_state.md R29, 30_encoding.md R74). -/
abbrev Bit := BitVec 1

/-- An 8-bit element: ELAPSED, DUTY, DISP, FG_LATCH, IN (10_state.md R20). -/
abbrev Byte := BitVec 8

/-- The LED-bar word LED[3:0]; bit `p` lights position `p` (30_encoding.md R73). -/
abbrev LedMask := BitVec 4

/-- A 7-bit segment mask, one glyph of the table (10_state.md R21). -/
abbrev Glyph := BitVec 7

/-- A 12-bit event word: OP in bits 11:8, IMM in bits 7:0 (30_encoding.md R80). -/
abbrev EventWord := BitVec 12

/-- The opcode field `w[11:8]` (30_encoding.md R80). -/
abbrev Opcode := BitVec 4

end Sys2Proof
end

