-- ==== Sys2Proof/Syntax.lean ====
section
/-!
DEFINITION. The instructions: the ten labelled transitions of the block, one constructor per row of
spec/opcode_table.json (00_scope.md R2; 30_encoding.md R81).
-/
namespace Sys2Proof

/-- One step's label. Only `ev.in` takes an operand (30_encoding.md R80, R85). -/
inductive Instr where
  /-- `ev.start`: a debounced Start edge (41_events.md R140). -/
  | evStart
  /-- `ev.reset`: a debounced Reset edge (R141). -/
  | evReset
  /-- `ev.tick`: the phase-advance timer's period elapses (R142). -/
  | evTick
  /-- `ev.refresh`: the display-refresh timer's period elapses (R143). -/
  | evRefresh
  /-- `ev.in v`: the input bus takes the value `v` (R144). -/
  | evIn (v : Byte)
  /-- `isr.start`: the StartPressed handler (R145). -/
  | isrStart
  /-- `isr.reset`: the ResetPressed handler (R149). -/
  | isrReset
  /-- `isr.tick`: the Tick handler (R146). -/
  | isrTick
  /-- `fg.sample`: the foreground samples and computes the display byte (R160). -/
  | fgSample
  /-- `fg.write`: the foreground writes the display byte and toggles the digit (R161). -/
  | fgWrite
deriving DecidableEq, Repr

end Sys2Proof
end

