-- ==== Sys2Proof/Decode.lean ====
section
/-!
DEFINITION. The decoder of event words, total over all 4096 (30_encoding.md R82), and the encoder, both
written from the opcode map of R81.
-/
namespace Sys2Proof

/-- Why the decoder rejects a word. -/
inductive DecodeError where
  /-- A reserved word: a reserved opcode, or IMM ≠ 0 on a word other than `ev.in` (30_encoding.md R83). -/
  | reservedEncoding (w : EventWord)
deriving DecidableEq, Repr

/-- OP, the field `w[11:8]` (30_encoding.md R80). -/
def opField (w : EventWord) : Opcode := w.extractLsb' 8 4

/-- IMM, the field `w[7:0]` (30_encoding.md R80). -/
def immField (w : EventWord) : Byte := w.extractLsb' 0 8

/-- The event a word with opcode `op` and IMM = 0 names, for the opcodes other than `ev.in`'s
(30_encoding.md R81). -/
def plainEvent (op : Opcode) : Option Instr :=
  match op with
  | 0x1 => some .evStart
  | 0x2 => some .evReset
  | 0x3 => some .evTick
  | 0x4 => some .evRefresh
  | 0x8 => some .isrStart
  | 0x9 => some .isrReset
  | 0xA => some .isrTick
  | 0xC => some .fgSample
  | 0xD => some .fgWrite
  | _ => none

/-- `decode` of 30_encoding.md R82. -/
def decode (w : EventWord) : Except DecodeError Instr :=
  if opField w = 0x5 then .ok (.evIn (immField w))
  else if immField w = 0 then
    match plainEvent (opField w) with
    | some i => .ok i
    | none => .error (.reservedEncoding w)
  else .error (.reservedEncoding w)

/-- The opcode of an instruction (30_encoding.md R81). -/
def opcodeOf : Instr → Opcode
  | .evStart => 0x1
  | .evReset => 0x2
  | .evTick => 0x3
  | .evRefresh => 0x4
  | .evIn _ => 0x5
  | .isrStart => 0x8
  | .isrReset => 0x9
  | .isrTick => 0xA
  | .fgSample => 0xC
  | .fgWrite => 0xD

/-- The immediate of an instruction: `ev.in`'s operand taken whole, 0 in every other (30_encoding.md R80). -/
def immediateOf : Instr → Byte
  | .evStart => 0
  | .evReset => 0
  | .evTick => 0
  | .evRefresh => 0
  | .evIn v => v
  | .isrStart => 0
  | .isrReset => 0
  | .isrTick => 0
  | .fgSample => 0
  | .fgWrite => 0

/-- The event word of an instruction: OP above IMM (30_encoding.md R80). -/
def encode (i : Instr) : EventWord := opcodeOf i ++ immediateOf i

/-- The event word a table number stands for. An event word has 12 bits, so a number that does not fit
in 12 bits is no word (log entry 4). -/
def tableWord (_nbits w : Nat) : Option EventWord :=
  if w < 4096 then some (BitVec.ofNat 12 w) else none

/-- The instruction the decoder reads from a number laid out as spec/opcode_table.json lays its words
out; there is one word per instruction, so no bit lies above it. -/
def decodeTableWord (nbits w : Nat) : Option Instr :=
  match tableWord nbits w with
  | some e => (decode e).toOption
  | none => none

end Sys2Proof
end

