-- ==== Sys2Proof/Config.lean ====
section
/-!
DEFINITION. What an implementation of the block fixes: the parameters of 00_scope.md R6 that some rule
reads, and the two glyph tables of 10_state.md R21, whose values the spec leaves OPEN.

The parameters with a fixed value (the thresholds and the phase duty bytes) are named constants beside
the functions that read them, in Machine/Phases.lean. TICK_PERIOD and REFRESH_PERIOD are read by no rule
(R6) and have no counterpart. The values this model runs with are `Machine.params`.
-/
namespace Sys2Proof

/-- The parameters of 00_scope.md R6 with a default or OPEN value. Each function that reads one takes
the record as an argument. -/
structure Params where
  /-- LEVEL_LSB: low bit of the 2-bit water-level field, at most 6 (30_encoding.md R70). -/
  levelLsb : Fin 7
  /-- SEL_BIT: the bit of the input bus holding the mode-select switch (R70). -/
  selBit : Fin 8
  /-- FAULT_LSB: low bit of the 2-bit fault field, at most 6 (R70). -/
  faultLsb : Fin 7
  /-- DUTY_OFF: the duty byte meaning "LED fully off" (R6, R77). -/
  dutyOff : Byte
  /-- RESET_CLEARS_FINISHED: whether the Reset handler also clears FINISHED (R6, 41_events.md R149). -/
  resetClearsFinished : Bool
  /-- GLYPH[0..4]: the glyph table (10_state.md R21). -/
  glyph : Vector Glyph 5
  /-- DONE_GLYPH: the completion glyph (10_state.md R21). -/
  doneGlyph : Glyph
deriving DecidableEq, Repr

/-- GLYPH[0..4]. OPEN in the spec (00_scope.md R6, 10_state.md R21): no value, so no proof can rest on
one. Log entry 6. Safe. -/
opaque Config.glyphTable : Vector Glyph 5

/-- DONE_GLYPH. OPEN in the spec (00_scope.md R6, 10_state.md R21). Log entry 6. Safe. -/
opaque Config.doneGlyph : Glyph

end Sys2Proof
end

