-- ==== Sys2Proof/Machine/Operands.lean ====
section
/-!
DEFINITION. The fields of one sample of the input bus and its classification: 30_encoding.md section 1
and 40_functions.md section 1.
-/
namespace Sys2Proof.Machine

/-- `level(in)`, the 2-bit water level (30_encoding.md R71). -/
def levelField (c : Params) (bus : Byte) : BitVec 2 := bus.extractLsb' c.levelLsb.val 2

/-- `sel(in) = 1`: extended selected (30_encoding.md R71). -/
def extendedSelected (c : Params) (bus : Byte) : Bool := bus.getLsbD c.selBit.val

/-- `fault(in)`: both fault bits set (30_encoding.md R71). -/
def faultPattern (c : Params) (bus : Byte) : Bool := bus.extractLsb' c.faultLsb.val 2 == 0b11

/-- The two valid modes (00_scope.md R7), the ones `phase` is defined on (40_functions.md R110). -/
inductive CycleMode where
  | extended
  | normal
deriving DecidableEq, Repr

/-- The result of the classifier: Extended, Normal or Invalid (40_functions.md R100). -/
inductive Mode where
  | valid (m : CycleMode)
  | invalid
deriving DecidableEq, Repr

/-- `classify(in)` (40_functions.md R100). -/
def classify (c : Params) (bus : Byte) : Mode :=
  if faultPattern c bus then .invalid
  else if extendedSelected c bus then .valid .extended
  else .valid .normal

/-- `valid(m)`: not Invalid (40_functions.md R101). -/
def Mode.isValid : Mode → Bool
  | .valid _ => true
  | .invalid => false

end Sys2Proof.Machine
end

