-- ==== Sys2Proof/Machine/Display.lean ====
section
/-!
DEFINITION. The display multiplexer (40_functions.md section 4, 30_encoding.md R74 and R76).
-/
namespace Sys2Proof.Machine

/-- The glyph index of the extended label (30_encoding.md R76). -/
def extendedLabel : Fin 5 := 3

/-- The glyph index of the normal label (30_encoding.md R76). -/
def normalLabel : Fin 5 := 4

/-- `value_index(in, digit)`, from the raw bits and not the classified mode (40_functions.md R120). -/
def valueIndex (c : Params) (bus : Byte) (digit : Bit) : Fin 5 :=
  if digit = 0 then (levelField c bus).toFin.castLE (by decide)
  else if extendedSelected c bus then extendedLabel
  else normalLabel

/-- `render(idx, digit, fin)`: the digit select above the segment mask (40_functions.md R121,
30_encoding.md R74). -/
def render (c : Params) (idx : Fin 5) (digit : Bit) (fin : Bool) : Byte :=
  if fin then digit ++ c.doneGlyph else digit ++ c.glyph[idx]

/-- `display_byte(in, digit, fin)` (40_functions.md R123). -/
def displayByte (c : Params) (bus : Byte) (digit : Bit) (fin : Bool) : Byte :=
  render c (valueIndex c bus digit) digit fin

/-- The digit a display byte drives: its bit 7 (30_encoding.md R74). -/
def digitOf (b : Byte) : Bit := b.extractLsb' 7 1

end Sys2Proof.Machine
end

