-- ==== Sys2Proof/Machine/Patterns.lean ====
section
/-!
DEFINITION. The three pattern generators of 40_functions.md section 2, functions of the absolute elapsed
count, total over 0..255 (R107).
-/
namespace Sys2Proof.Machine

/-- `step(e)`, the visual step index 0..15 in a 16-step window (40_functions.md R103). -/
def visualStep (e : Byte) : Nat := e.toNat / 2 % 16

/-- `pos(e)`, the chase position 0..3 (40_functions.md R103). -/
def chasePos (e : Byte) : Nat := e.toNat / 2 % 4

/-- One LED lit, at position `p` (30_encoding.md R73). -/
def ledAt (p : Nat) : LedMask := 1#4 <<< p

/-- All four LEDs lit (30_encoding.md R73). -/
def allOn : LedMask := 0b1111

/-- All four LEDs off (30_encoding.md R73). -/
def allOff : LedMask := 0b0000

/-- `wash(e)` (40_functions.md R104). -/
def wash (e : Byte) : LedMask :=
  if visualStep e < 8 then ledAt (chasePos e) else allOn

/-- `rinse(e)` (40_functions.md R105). -/
def rinse (e : Byte) : LedMask :=
  if visualStep e < 8 then ledAt (3 - chasePos e)
  else if visualStep e < 12 then allOn
  else allOff

/-- `spin(e)` (40_functions.md R106; the blink's phase is the spec's decision D5). -/
def spin (e : Byte) : LedMask :=
  if visualStep e < 4 then ledAt (chasePos e)
  else if visualStep e < 8 then ledAt (3 - chasePos e)
  else if e.toNat % 2 = 0 then allOn
  else allOff

end Sys2Proof.Machine
end

