-- ==== Sys2Proof/Machine/Phases.lean ====
section
/-!
DEFINITION. Phase and duty selection (40_functions.md section 3). The thresholds and duty bytes are the
named constants that R111 requires, with the fixed values of 00_scope.md R6; the source's literals are
unaudited (93_implementation_defined.md section 4; log entry 16).
-/
namespace Sys2Proof.Machine

/-- T_WASH_END: first elapsed value past wash, both modes (00_scope.md R6). -/
def washEnd : Nat := 32

/-- T_RINSE_END_EXT = 96 and T_RINSE_END_NRM = 64: first elapsed value past rinse (00_scope.md R6). -/
def rinseEnd : CycleMode → Nat
  | .extended => 96
  | .normal => 64

/-- T_SPIN_END_EXT = 128 and T_SPIN_END_NRM = 96: the completion value (00_scope.md R6). -/
def spinEnd : CycleMode → Nat
  | .extended => 128
  | .normal => 96

/-- The three phases of a cycle (00_scope.md R7). -/
inductive Phase where
  | wash
  | rinse
  | spin
deriving DecidableEq, Repr

/-- What a tick dispatches to: a phase, or COMPLETE (40_functions.md R110). -/
inductive TickTarget where
  | active (p : Phase)
  | complete
deriving DecidableEq, Repr

/-- `phase(m, e)` (40_functions.md R110). Its domain is the valid modes: no rule calls it with Invalid
(log entry 13). -/
def phase (m : CycleMode) (e : Byte) : TickTarget :=
  if e.toNat < washEnd then .active .wash
  else if e.toNat < rinseEnd m then .active .rinse
  else if e.toNat < spinEnd m then .active .spin
  else .complete

/-- `gen(p, e)` (40_functions.md R112), not defined for COMPLETE (log entry 13). -/
def gen (p : Phase) (e : Byte) : LedMask :=
  match p with
  | .wash => wash e
  | .rinse => rinse e
  | .spin => spin e

/-- DUTY_WASH, the duty byte of the 10% level (00_scope.md R6). -/
def dutyWash : Byte := 230

/-- DUTY_RINSE, the duty byte of the 50% level (00_scope.md R6). -/
def dutyRinse : Byte := 128

/-- DUTY_SPIN, the duty byte of the 90% level (00_scope.md R6). -/
def dutySpin : Byte := 26

/-- `duty(p)` (40_functions.md R113). -/
def phaseDuty (p : Phase) : Byte :=
  match p with
  | .wash => dutyWash
  | .rinse => dutyRinse
  | .spin => dutySpin

end Sys2Proof.Machine
end

