-- ==== Sys2Proof/Machine/Params.lean ====
section
/-!
DEFINITION. The parameter values this model runs with: the spec's defaults (00_scope.md R6), and the
OPEN glyph tables of Config.
-/
namespace Sys2Proof.Machine

/-- The default input layout of 30_encoding.md R70, the default DUTY_OFF and RESET_CLEARS_FINISHED of
00_scope.md R6 (the spec's decisions D2, D6 and D9), and the OPEN glyphs. Log entries 6 to 9. -/
def params : Params where
  levelLsb := 0
  selBit := 2
  faultLsb := 0
  dutyOff := 255
  resetClearsFinished := false
  glyph := Config.glyphTable
  doneGlyph := Config.doneGlyph

end Sys2Proof.Machine
end

