-- ==== Sys2Proof/Machine/State.lean ====
section
/-!
DEFINITION. The state of the block (10_state.md R20), the named ways a step can stop, and the state
after power-on (70_reset_and_hazards.md R210).
-/
namespace Sys2Proof.Machine

/-- FG_PHASE, the foreground's position in its two-step loop: WAIT = 0, WRITE = 1 (10_state.md R20, R30). -/
inductive FgPhase where
  | wait
  | write
deriving DecidableEq, Repr

/-- The three interrupt sources (60_exceptions.md R183). -/
inductive Source where
  | start
  | reset
  | tick
deriving DecidableEq, Repr

/-- The named stuck states: a well-formed word whose guard is false has no step (00_scope.md R10,
30_encoding.md R84). The block itself never faults (60_exceptions.md R180); the host's interface has no
fourth outcome, so a stuck label answers here, with the word still first in the script. Log entry 3. -/
inductive Fault where
  /-- `ev.tick` with TICK_EN = 0 (41_events.md R142). Safe: the spec has no such step. -/
  | stuckTickSourceDisabled
  /-- `isr.start` without START_EN and START_PEND both 1 (R145). Safe: the spec has no such step. -/
  | stuckStartNotTaken
  /-- `isr.reset` with RESET_PEND = 0 (R149). Safe: the spec has no such step. -/
  | stuckResetNotTaken
  /-- `isr.tick` without TICK_EN and TICK_PEND both 1 (R146). Safe: the spec has no such step. -/
  | stuckTickNotTaken
  /-- `fg.sample` outside WAIT or without REFRESH_FLAG (R160). Safe: the spec has no such step. -/
  | stuckSampleNotReady
  /-- `fg.write` in WAIT (R161). Safe: the spec has no such step. -/
  | stuckWriteNotReady
deriving DecidableEq, Repr

/-- Words and instructions without a meaning. -/
inductive Refusal where
  /-- An instruction of the table without a meaning in this model; raised by a refused arm of `exec`.
  Safe. No arm raises it. -/
  | notModelled (mnemonic : String)
  /-- A reserved event word (30_encoding.md R83); raised by `step`. Safe: the spec refuses it. -/
  | reservedEncoding (w : EventWord)
deriving DecidableEq, Repr

/-- The state elements of 10_state.md R20, in its order. RESET_EN is hardwired and is read through
`State.resetEn` (log entry 10). The last field is the model's own. -/
structure State where
  /-- ELAPSED, the elapsed-tick counter (R22). -/
  elapsed : Byte
  /-- FINISHED, the completion flag (R23). -/
  finished : Bool
  /-- TICK_EN, the enable of the phase-advance tick source (R24). -/
  tickEn : Bool
  /-- START_EN, the enable of the Start trigger (R25). -/
  startEn : Bool
  /-- TICK_PEND, the pending latch of the Tick handler (R27). -/
  tickPend : Bool
  /-- START_PEND, the pending latch of the Start handler (R27). -/
  startPend : Bool
  /-- RESET_PEND, the pending latch of the Reset handler (R27). -/
  resetPend : Bool
  /-- REFRESH_FLAG, set by the display-refresh timer (R28). -/
  refreshFlag : Bool
  /-- DIGIT, the alternating digit flag: 0 the water-level digit, 1 the mode digit (R29). -/
  digit : Bit
  /-- FG_PHASE (R30). -/
  fgPhase : FgPhase
  /-- FG_LATCH, the display byte computed and not yet written (R30). -/
  fgLatch : Byte
  /-- LED, the LED-bar output register (R31). -/
  led : LedMask
  /-- DUTY, the PWM duty output register (R32). -/
  duty : Byte
  /-- DISP, the display output register (R33). -/
  disp : Byte
  /-- IN, the input bus, owned by the environment (R34). -/
  inBus : Byte
  /-- The run's remaining event words, in order (30_encoding.md R84). THE MODEL'S OWN: it says which
  step the environment, the handlers and the foreground take next, which the spec leaves open
  (41_events.md R164). Log entry 1. -/
  script : List EventWord
deriving DecidableEq, Repr

/-- The power-on state of 70_reset_and_hazards.md R210, for each value of the input bus and each draw of
the two elements the spec leaves unspecified, FG_LATCH and DISP. -/
def State.powerOn (c : Params) (bus latch display : Byte) : State where
  elapsed := 0
  finished := false
  tickEn := false
  startEn := true
  tickPend := false
  startPend := false
  resetPend := false
  refreshFlag := false
  digit := 0
  fgPhase := .wait
  fgLatch := latch
  led := 0
  duty := c.dutyOff
  disp := display
  inBus := bus
  script := []

/-- The machine right after reset: the power-on state with IN, FG_LATCH and DISP drawn as 0, DESIGN
CHOICE (log entry 5, unsafe), and with no script (log entry 1). -/
def State.reset : State := State.powerOn params 0 0 0

end Sys2Proof.Machine
end

