-- ==== Sys2Proof/Machine/Ops.lean ====
section
/-!
DEFINITION. The shared operations: the guard of a step, the latches, taking a handler and returning from
it, the reset semantics and the other bodies of 41_events.md, and the fetch of the next event word.

All writes of one rule take effect together, a later write to the same element winning (00_scope.md R9).
-/
namespace Sys2Proof.Machine

/-- A step exists only when its guard holds; otherwise the machine is stuck on the label
(00_scope.md R10). -/
def guarded (g : Bool) (why : Fault) (t : State) : Host.Outcome State Fault Refusal :=
  if g then .next t else .fault why

/-- RESET_EN, hardwired to 1; nothing writes it (10_state.md R26). -/
def State.resetEn (_ : State) : Bool := true

/-- `In()`, the current value of the input bus (00_scope.md R9). -/
def State.sampleIn (s : State) : Byte := s.inBus

/-! ### Latches (10_state.md R27, R28) -/

/-- The pending latch of a source (60_exceptions.md R183). -/
def State.pending (src : Source) (s : State) : Bool :=
  match src with
  | .start => s.startPend
  | .reset => s.resetPend
  | .tick => s.tickPend

/-- The enable of a source (60_exceptions.md R183, R184). -/
def State.sourceEnabled (src : Source) (s : State) : Bool :=
  match src with
  | .start => s.startEn
  | .reset => s.resetEn
  | .tick => s.tickEn

/-- Writes a source's pending latch (10_state.md R27). -/
def State.setPending (src : Source) (b : Bool) (s : State) : State :=
  match src with
  | .start => { s with startPend := b }
  | .reset => { s with resetPend := b }
  | .tick => { s with tickPend := b }

/-- Writes REFRESH_FLAG (10_state.md R28). -/
def State.setRefresh (b : Bool) (s : State) : State := { s with refreshFlag := b }

/-- The environment drives the input bus (10_state.md R34). -/
def State.setIn (v : Byte) (s : State) : State := { s with inBus := v }

/-! ### Taking a handler, and its return (60_exceptions.md R185, R189, R190) -/

/-- A handler is taken exactly where its source is pending and enabled (60_exceptions.md R185). -/
def canTake (src : Source) (s : State) : Bool := s.pending src && s.sourceEnabled src

/-- Handler entry clears the handler's own pending latch; nothing is saved and no mode changes
(60_exceptions.md R189). -/
def enterHandler (src : Source) (s : State) : State := s.setPending src false

/-- Handler return: nothing is restored (60_exceptions.md R190). -/
def leaveHandler (s : State) : State := s

/-- Taking a handler: entry, its work and its return as one atomic step (60_exceptions.md R188, R189). -/
def takeHandler (src : Source) (why : Fault) (body : State → State) (s : State) :
    Host.Outcome State Fault Refusal :=
  guarded (canTake src s) why (leaveHandler (body (enterHandler src s)))

/-! ### The bodies of the handlers (41_events.md section 2) -/

/-- `do_reset()`, the reset semantics (41_events.md R150). -/
def doReset (c : Params) (s : State) : State :=
  { s with
    elapsed := 0
    tickEn := false
    tickPend := false
    duty := c.dutyOff
    led := allOff
    startEn := true
    startPend := false }

/-- The writes of an accepted start (41_events.md R145). -/
def beginCycle (s : State) : State :=
  { s with
    finished := false
    elapsed := 0
    tickEn := true
    duty := dutyWash
    led := ledAt 0
    startEn := false }

/-- `(ELAPSED + 1) mod 256` (41_events.md R146, 10_state.md R22). -/
def nextElapsed (s : State) : Byte := s.elapsed + 1

/-- The writes of a sub-threshold tick (41_events.md R146). -/
def advanceCycle (p : Phase) (e : Byte) (s : State) : State :=
  { s with elapsed := e, duty := phaseDuty p, led := gen p e }

/-- The writes of a completion: the reset semantics, then FINISHED (41_events.md R148). -/
def completeCycle (c : Params) (s : State) : State :=
  { doReset c s with finished := true }

/-- A tick in a valid mode: increment, then dispatch on the phase (41_events.md R146). -/
def tickInMode (c : Params) (m : CycleMode) (s : State) : State :=
  match phase m (nextElapsed s) with
  | .active p => advanceCycle p (nextElapsed s) s
  | .complete => completeCycle c s

/-- FINISHED under the Reset handler: cleared only where RESET_CLEARS_FINISHED is true
(41_events.md R149). -/
def clearFinishedIf (b : Bool) (s : State) : State :=
  { s with finished := if b then false else s.finished }

/-! ### The foreground's two steps (41_events.md section 3) -/

/-- The writes of `fg.sample` (41_events.md R160). -/
def sampleDisplay (c : Params) (s : State) : State :=
  { s with
    refreshFlag := false
    fgLatch := displayByte c s.sampleIn s.digit s.finished
    fgPhase := .write }

/-- The writes of `fg.write` (41_events.md R161). -/
def writeDisplay (s : State) : State :=
  { s with disp := s.fgLatch, digit := s.digit ^^^ 1, fgPhase := .wait }

/-! ### The run's script (30_encoding.md R84) -/

/-- The next event word and the state with the rest of the script, or none where no word is left. -/
def fetch (s : State) : Option (EventWord × State) :=
  match s.script with
  | [] => none
  | w :: rest => some (w, { s with script := rest })

/-- No step is taken: the block idles in the foreground's busy-wait and nothing changes
(41_events.md R164, 00_scope.md R10). Log entry 2. -/
def idle (s : State) : Host.Outcome State Fault Refusal := .next s

/-- The word whose bits are `w`, placed first in the script. -/
def placeWord (w : EventWord) (s : State) : State := { s with script := w :: s.script }

end Sys2Proof.Machine
end

