-- ==== Sys2Proof/Machine/Environment.lean ====
section
/-!
DEFINITION. The environment events (41_events.md section 1).
-/
namespace Sys2Proof.Machine

/-- `ev.start` (41_events.md R140): the edge is latched, whatever START_EN. -/
def execEvStart (s : State) : Host.Outcome State Fault Refusal :=
  .next (s.setPending .start true)

/-- `ev.reset` (41_events.md R141). -/
def execEvReset (s : State) : Host.Outcome State Fault Refusal :=
  .next (s.setPending .reset true)

/-- `ev.tick` (41_events.md R142): a disabled tick source produces no event. -/
def execEvTick (s : State) : Host.Outcome State Fault Refusal :=
  guarded s.tickEn .stuckTickSourceDisabled (s.setPending .tick true)

/-- `ev.refresh` (41_events.md R143). -/
def execEvRefresh (s : State) : Host.Outcome State Fault Refusal :=
  .next (s.setRefresh true)

/-- `ev.in v` (41_events.md R144). -/
def execEvIn (v : Byte) (s : State) : Host.Outcome State Fault Refusal :=
  .next (s.setIn v)

end Sys2Proof.Machine
end

