-- ==== Sys2Proof/Machine/Foreground.lean ====
section
/-!
DEFINITION. The two steps of the foreground's display-refresh loop (41_events.md section 3).
-/
namespace Sys2Proof.Machine

/-- `fg.sample` for a parameter record: taken in WAIT once the refresh flag is set (41_events.md R160). -/
def fgSampleWith (c : Params) (s : State) : Host.Outcome State Fault Refusal :=
  guarded (s.fgPhase == .wait && s.refreshFlag) .stuckSampleNotReady (sampleDisplay c s)

/-- `fg.sample` (41_events.md R160). -/
def execFgSample (s : State) : Host.Outcome State Fault Refusal := fgSampleWith params s

/-- `fg.write`: taken in WRITE (41_events.md R161). -/
def execFgWrite (s : State) : Host.Outcome State Fault Refusal :=
  guarded (s.fgPhase == .write) .stuckWriteNotReady (writeDisplay s)

end Sys2Proof.Machine
end

