-- ==== Sys2Proof/Machine/Handlers.lean ====
section
/-!
DEFINITION. The three handlers (41_events.md section 2). Each is given for every parameter record, and
the machine runs it at `params`.
-/
namespace Sys2Proof.Machine

/-- The body of `isr.start`: the start is accepted only in a valid mode (41_events.md R145, R152). -/
def startBody (c : Params) (s : State) : State :=
  match classify c s.sampleIn with
  | .invalid => s
  | .valid _ => beginCycle s

/-- The body of `isr.tick`: under Invalid nothing further is written (41_events.md R146, R147). -/
def tickBody (c : Params) (s : State) : State :=
  match classify c s.sampleIn with
  | .invalid => s
  | .valid m => tickInMode c m s

/-- The body of `isr.reset` (41_events.md R149). -/
def resetBody (c : Params) (s : State) : State :=
  clearFinishedIf c.resetClearsFinished (doReset c s)

/-- `isr.start` for a parameter record (41_events.md R145). -/
def isrStartWith (c : Params) (s : State) : Host.Outcome State Fault Refusal :=
  takeHandler .start .stuckStartNotTaken (startBody c) s

/-- `isr.reset` for a parameter record (41_events.md R149). -/
def isrResetWith (c : Params) (s : State) : Host.Outcome State Fault Refusal :=
  takeHandler .reset .stuckResetNotTaken (resetBody c) s

/-- `isr.tick` for a parameter record (41_events.md R146). -/
def isrTickWith (c : Params) (s : State) : Host.Outcome State Fault Refusal :=
  takeHandler .tick .stuckTickNotTaken (tickBody c) s

/-- `isr.start` (41_events.md R145). -/
def execIsrStart (s : State) : Host.Outcome State Fault Refusal := isrStartWith params s

/-- `isr.reset` (41_events.md R149). -/
def execIsrReset (s : State) : Host.Outcome State Fault Refusal := isrResetWith params s

/-- `isr.tick` (41_events.md R146). -/
def execIsrTick (s : State) : Host.Outcome State Fault Refusal := isrTickWith params s

end Sys2Proof.Machine
end

