-- ==== Sys2Proof/Machine/Dispatch.lean ====
section
/-!
DEFINITION. The meaning of each instruction: one arm per constructor (30_encoding.md R81).
-/
namespace Sys2Proof.Machine

def exec (i : Instr) (s : State) : Host.Outcome State Fault Refusal :=
  match i with
  | .evStart => Sys2Proof.Machine.execEvStart s
  | .evReset => Sys2Proof.Machine.execEvReset s
  | .evTick => Sys2Proof.Machine.execEvTick s
  | .evRefresh => Sys2Proof.Machine.execEvRefresh s
  | .evIn v => Sys2Proof.Machine.execEvIn v s
  | .isrStart => Sys2Proof.Machine.execIsrStart s
  | .isrReset => Sys2Proof.Machine.execIsrReset s
  | .isrTick => Sys2Proof.Machine.execIsrTick s
  | .fgSample => Sys2Proof.Machine.execFgSample s
  | .fgWrite => Sys2Proof.Machine.execFgWrite s

end Sys2Proof.Machine
end

