-- ==== Sys2Proof/Machine/Step.lean ====
section
/-!
DEFINITION. One step of a run: take the script's next word, decode it, run it (30_encoding.md R82 to
R84).
-/
namespace Sys2Proof.Machine

/-- The next word of the script is decoded and run. A reserved word is refused (30_encoding.md R83); a
word whose guard is false leaves the machine stuck at it (R84); with no word left the block idles
(41_events.md R164). -/
def step (s : State) : Host.Outcome State Fault Refusal :=
  match fetch s with
  | none => idle s
  | some (w, t) =>
    match decode w with
    | .ok i => exec i t
    | .error (.reservedEncoding r) => .refused (.reservedEncoding r)

/-- The event word whose bits are `w` becomes the next one `step` takes. An event word is one 12-bit
word, so `nbits` adds nothing. -/
def State.withFetchWord (s : State) (_nbits w : Nat) : State := placeWord (BitVec.ofNat 12 w) s

end Sys2Proof.Machine
end

