-- ==== Sys2Proof/Machine/Script.lean ====
section
/-!
DEFINITION. Event scripts as text and the pseudo-instructions (30_encoding.md section 4).

A text is a list of characters. Where R85 and R86 do not say how a line is laid out (which characters
are blanks, that a pseudo-instruction may stand on a line of its own beside events), log entry 15 says
what this reader takes.
-/
namespace Sys2Proof.Machine

/-! ### Pseudo-instructions (30_encoding.md R86) -/

/-- The nine pseudo-instructions of 30_encoding.md R86, the two bare forms `tick` and `refresh` being
those with a count of 1. -/
inductive Pseudo where
  /-- `press.start` -/
  | pressStart
  /-- `press.reset` -/
  | pressReset
  /-- `tick N`, and `tick` -/
  | tick (n : Nat)
  /-- `refresh N`, and `refresh` -/
  | refresh (n : Nat)
  /-- `in.nrm L` -/
  | inNormal (level : Nat)
  /-- `in.ext L` -/
  | inExtended (level : Nat)
  /-- `in.fault` -/
  | inFault
deriving DecidableEq, Repr

/-- A count is at least 1 and a level is in 0..2 (30_encoding.md R86). -/
def Pseudo.wellFormed : Pseudo → Bool
  | .pressStart => true
  | .pressReset => true
  | .tick n => decide (1 ≤ n)
  | .refresh n => decide (1 ≤ n)
  | .inNormal l => decide (l ≤ 2)
  | .inExtended l => decide (l ≤ 2)
  | .inFault => true

/-- `n` copies of a sequence of events, one after another. -/
def repeatEvents (n : Nat) (is : List Instr) : List Instr :=
  match n with
  | 0 => []
  | k + 1 => is ++ repeatEvents k is

/-- The exact expansion of a pseudo-instruction (30_encoding.md R86). -/
def Pseudo.expand : Pseudo → List Instr
  | .pressStart => [.evStart, .isrStart]
  | .pressReset => [.evReset, .isrReset]
  | .tick n => repeatEvents n [.evTick, .isrTick]
  | .refresh n => repeatEvents n [.evRefresh, .fgSample, .fgWrite]
  | .inNormal l => [.evIn (BitVec.ofNat 8 l)]
  | .inExtended l => [.evIn (BitVec.ofNat 8 (4 + l))]
  | .inFault => [.evIn 3]

/-! ### Characters, words and numbers -/

/-- Cuts a text at each character that `cut` holds of. -/
def splitAtChars (cut : Char → Bool) : List Char → List (List Char)
  | [] => [[]]
  | c :: cs =>
    if cut c then [] :: splitAtChars cut cs
    else
      match splitAtChars cut cs with
      | [] => [[c]]
      | l :: ls => (c :: l) :: ls

/-- The blanks between a mnemonic and its operand: space, tab and carriage return. -/
def isBlank (c : Char) : Bool := c == ' ' || c == '\t' || c == '\r'

/-- A line up to its comment (30_encoding.md R85). -/
def withoutComment (line : List Char) : List Char := line.takeWhile (fun c => c != ';')

/-- The words of a line. -/
def wordsOf (line : List Char) : List (List Char) :=
  (splitAtChars isBlank line).filter (fun w => !w.isEmpty)

/-- The value of a digit, in either case. -/
def digitValue (c : Char) : Option Nat :=
  if '0'.toNat ≤ c.toNat ∧ c.toNat ≤ '9'.toNat then some (c.toNat - '0'.toNat)
  else if 'a'.toNat ≤ c.toNat ∧ c.toNat ≤ 'f'.toNat then some (c.toNat - 'a'.toNat + 10)
  else if 'A'.toNat ≤ c.toNat ∧ c.toNat ≤ 'F'.toNat then some (c.toNat - 'A'.toNat + 10)
  else none

/-- The number a run of digits stands for in a base, after the value read so far. -/
def readDigits (base : Nat) (acc : Nat) : List Char → Option Nat
  | [] => some acc
  | c :: cs =>
    match digitValue c with
    | some d => if d < base then readDigits base (acc * base + d) cs else none
    | none => none

/-- A nonempty run of digits in a base. -/
def readBase (base : Nat) (cs : List Char) : Option Nat :=
  match cs with
  | [] => none
  | _ :: _ => readDigits base 0 cs

/-- A number in decimal, `0x` hex or `0b` binary (30_encoding.md R85). -/
def readNumber (cs : List Char) : Option Nat :=
  match cs with
  | '0' :: 'x' :: ds => readBase 16 ds
  | '0' :: 'b' :: ds => readBase 2 ds
  | _ => readBase 10 cs

/-! ### Lines -/

/-- The events without an operand, with their mnemonics in lower case (30_encoding.md R81, R85). -/
def plainMnemonics : List (List Char × Instr) :=
  [ (['e', 'v', '.', 's', 't', 'a', 'r', 't'], .evStart),
    (['e', 'v', '.', 'r', 'e', 's', 'e', 't'], .evReset),
    (['e', 'v', '.', 't', 'i', 'c', 'k'], .evTick),
    (['e', 'v', '.', 'r', 'e', 'f', 'r', 'e', 's', 'h'], .evRefresh),
    (['i', 's', 'r', '.', 's', 't', 'a', 'r', 't'], .isrStart),
    (['i', 's', 'r', '.', 'r', 'e', 's', 'e', 't'], .isrReset),
    (['i', 's', 'r', '.', 't', 'i', 'c', 'k'], .isrTick),
    (['f', 'g', '.', 's', 'a', 'm', 'p', 'l', 'e'], .fgSample),
    (['f', 'g', '.', 'w', 'r', 'i', 't', 'e'], .fgWrite) ]

/-- The mnemonic of `ev.in`, the only one that takes an operand (30_encoding.md R85). -/
def evInMnemonic : List Char := ['e', 'v', '.', 'i', 'n']

/-- The pseudo-instructions without an operand (30_encoding.md R86). -/
def plainPseudos : List (List Char × Pseudo) :=
  [ (['p', 'r', 'e', 's', 's', '.', 's', 't', 'a', 'r', 't'], .pressStart),
    (['p', 'r', 'e', 's', 's', '.', 'r', 'e', 's', 'e', 't'], .pressReset),
    (['t', 'i', 'c', 'k'], .tick 1),
    (['r', 'e', 'f', 'r', 'e', 's', 'h'], .refresh 1),
    (['i', 'n', '.', 'f', 'a', 'u', 'l', 't'], .inFault) ]

/-- The pseudo-instruction with a decimal operand that a word names (30_encoding.md R86). -/
def operandPseudo (w : List Char) (n : Nat) : Option Pseudo :=
  if w = ['t', 'i', 'c', 'k'] then some (.tick n)
  else if w = ['r', 'e', 'f', 'r', 'e', 's', 'h'] then some (.refresh n)
  else if w = ['i', 'n', '.', 'n', 'r', 'm'] then some (.inNormal n)
  else if w = ['i', 'n', '.', 'e', 'x', 't'] then some (.inExtended n)
  else none

/-- An event line's words (30_encoding.md R85). -/
def readEvent (ws : List (List Char)) : Option Instr :=
  match ws with
  | [m] => plainMnemonics.lookup m
  | [m, x] =>
    if m = evInMnemonic then
      match readNumber x with
      | some v => if v < 256 then some (.evIn (BitVec.ofNat 8 v)) else none
      | none => none
    else none
  | _ => none

/-- A pseudo-instruction line's words (30_encoding.md R86). -/
def readPseudo (ws : List (List Char)) : Option Pseudo :=
  match ws with
  | [m] => plainPseudos.lookup m
  | [m, x] =>
    match readBase 10 x with
    | some n => operandPseudo m n
    | none => none
  | _ => none

/-- The events of one line: none for a blank or comment line, one for an event, the expansion for a
well-formed pseudo-instruction (30_encoding.md R85, R86). -/
def readLine (line : List Char) : Option (List Instr) :=
  match wordsOf (withoutComment line) with
  | [] => some []
  | w :: ws =>
    match readEvent (w :: ws) with
    | some i => some [i]
    | none =>
      match readPseudo (w :: ws) with
      | some p => if p.wellFormed then some p.expand else none
      | none => none

/-- The events of a list of lines, in order; none where a line is ill-formed. -/
def readLines : List (List Char) → Option (List Instr)
  | [] => some []
  | l :: ls =>
    match readLine l, readLines ls with
    | some is, some js => some (is ++ js)
    | _, _ => none

/-- The events of a script's text (30_encoding.md R85, R86). -/
def readScript (text : List Char) : Option (List Instr) :=
  readLines (splitAtChars (fun c => c == '\n') text)

/-- The lower-case hex digit of a value below 16. -/
def hexDigit (n : Nat) : Char :=
  if n < 10 then Char.ofNat ('0'.toNat + n) else Char.ofNat ('a'.toNat + (n - 10))

/-- One event as a line of text, `ev.in`'s operand in `0x` hex (30_encoding.md R85). -/
def writeLine : Instr → List Char
  | .evStart => ['e', 'v', '.', 's', 't', 'a', 'r', 't']
  | .evReset => ['e', 'v', '.', 'r', 'e', 's', 'e', 't']
  | .evTick => ['e', 'v', '.', 't', 'i', 'c', 'k']
  | .evRefresh => ['e', 'v', '.', 'r', 'e', 'f', 'r', 'e', 's', 'h']
  | .evIn v => evInMnemonic ++ [' ', '0', 'x', hexDigit (v.toNat / 16), hexDigit (v.toNat % 16)]
  | .isrStart => ['i', 's', 'r', '.', 's', 't', 'a', 'r', 't']
  | .isrReset => ['i', 's', 'r', '.', 'r', 'e', 's', 'e', 't']
  | .isrTick => ['i', 's', 'r', '.', 't', 'i', 'c', 'k']
  | .fgSample => ['f', 'g', '.', 's', 'a', 'm', 'p', 'l', 'e']
  | .fgWrite => ['f', 'g', '.', 'w', 'r', 'i', 't', 'e']

/-- A sequence of events as a text, one line each (30_encoding.md R85). -/
def writeScript : List Instr → List Char
  | [] => []
  | i :: is => writeLine i ++ '\n' :: writeScript is

/-- The script of a sequence of events, loaded for the run (30_encoding.md R84). -/
def loadScript (is : List Instr) (s : State) : State := { s with script := is.map encode }

end Sys2Proof.Machine
end

