-- ==== Sys2Proof/Machine/Flags.lean ====
section
/-!
DEFINITION. The status views of 10_state.md sections 2 and 4. Each is derived and never stored; no step
reads or writes one.
-/
namespace Sys2Proof.Machine

/-- FG_PHASE as its bit: WAIT = 0, WRITE = 1 (10_state.md R20). -/
def FgPhase.toBit : FgPhase → Bit
  | .wait => 0
  | .write => 1

/-- The CTRL view (10_state.md R35): bit 0 TICK_EN, 1 START_EN, 2 RESET_EN, 3 FINISHED, 4 DIGIT,
5 FG_PHASE, 7:6 read as 0. -/
def State.ctrlView (s : State) : Byte :=
  0#2 ++ s.fgPhase.toBit ++ s.digit ++ BitVec.ofBool s.finished ++ BitVec.ofBool s.resetEn ++
    BitVec.ofBool s.startEn ++ BitVec.ofBool s.tickEn

/-- The PEND view (10_state.md R35): bit 0 TICK_PEND, 1 START_PEND, 2 RESET_PEND, 3 REFRESH_FLAG,
7:4 read as 0. -/
def State.pendView (s : State) : Byte :=
  0#4 ++ BitVec.ofBool s.refreshFlag ++ BitVec.ofBool s.resetPend ++ BitVec.ofBool s.startPend ++
    BitVec.ofBool s.tickPend

/-- The current Mode, computed from the bus at each use (10_state.md R40). -/
def State.mode (c : Params) (s : State) : Mode := classify c s.sampleIn

/-- CycleState; Active carries ELAPSED (10_state.md R41). -/
inductive CycleState where
  | idle
  | active (elapsed : Byte)
  | finished
deriving DecidableEq, Repr

/-- CycleState from the stored bits (10_state.md R41). -/
def State.cycleState (s : State) : CycleState :=
  if s.tickEn then .active s.elapsed
  else if s.finished then .finished
  else .idle

/-- The phase a duty byte stands for (40_functions.md R113 read backwards). -/
def phaseOfDuty (d : Byte) : Option Phase :=
  if d = dutyWash then some .wash
  else if d = dutyRinse then some .rinse
  else if d = dutySpin then some .spin
  else none

/-- The phase of an active cycle. It is not stored; LED and DUTY hold its outputs (10_state.md R41), and
DUTY tells it. DEDUCED, log entry 14. -/
def State.activePhase (s : State) : Option Phase :=
  if s.tickEn then phaseOfDuty s.duty else none

/-- DisplaySelection: the digit and its glyph index (10_state.md R42). -/
structure DisplaySelection where
  digit : Bit
  valueIndex : Fin 5
deriving DecidableEq, Repr

/-- DisplaySelection, recomputed from live inputs and the digit flag (10_state.md R42). -/
def State.displaySelection (c : Params) (s : State) : DisplaySelection where
  digit := s.digit
  valueIndex := valueIndex c s.sampleIn s.digit

/-- DutyLevel: the duty of the active phase (10_state.md R43). -/
def State.dutyLevel (s : State) : Option Byte := s.activePhase.map phaseDuty

end Sys2Proof.Machine
end

