-- ==== Sys2Proof/Safety.lean ====
section
/-!
DEFINITION. The terms claims about runs are stated in: when a step exists (41_events.md R164), runs
(30_encoding.md R84, 70_reset_and_hazards.md R233), reachable states, the invariants of 10_state.md R45,
and fairness (60_exceptions.md R201).
-/
namespace Sys2Proof.Machine

/-- The guard of each step, as the rules of 41_events.md write it (R164). -/
def stepExists (i : Instr) (s : State) : Bool :=
  match i with
  | .evStart => true
  | .evReset => true
  | .evTick => s.tickEn
  | .evRefresh => true
  | .evIn _ => true
  | .isrStart => s.startEn && s.startPend
  | .isrReset => s.resetPend
  | .isrTick => s.tickEn && s.tickPend
  | .fgSample => s.fgPhase == .wait && s.refreshFlag
  | .fgWrite => s.fgPhase == .write

/-- The three handlers (60_exceptions.md R183). -/
def handlers : List Instr := [.isrStart, .isrReset, .isrTick]

/-- The foreground's two steps (00_scope.md R13). -/
def foregroundSteps : List Instr := [.fgSample, .fgWrite]

/-! ### Runs -/

/-- Events taken in order from a state, stopping at the first that does not answer a next state
(30_encoding.md R84). -/
def runEvents : List Instr → State → Host.Outcome State Fault Refusal
  | [], s => .next s
  | i :: is, s =>
    match exec i s with
    | .next t => runEvents is t
    | .fault f => .fault f
    | .refused r => .refused r

/-- The values written to DISP along a run, in order (70_reset_and_hazards.md R233). -/
def displayWrites : List Instr → State → List Byte
  | [], _ => []
  | i :: is, s =>
    match exec i s with
    | .next t => if i = .fgWrite then t.disp :: displayWrites is t else displayWrites is t
    | .fault _ => []
    | .refused _ => []

/-- Whether a step, where it is taken, writes LED and DUTY (41_events.md R145, R146, R149). -/
def writesLedAndDuty (i : Instr) (s : State) : Bool :=
  match i with
  | .evStart => false
  | .evReset => false
  | .evTick => false
  | .evRefresh => false
  | .evIn _ => false
  | .isrStart => (s.mode params).isValid
  | .isrReset => true
  | .isrTick => (s.mode params).isValid
  | .fgSample => false
  | .fgWrite => false

/-- The values written to LED and DUTY along a run, in order; a step that writes one writes both
(70_reset_and_hazards.md R233, 20_memory.md R63). -/
def ledAndDutyWrites : List Instr → State → List (LedMask × Byte)
  | [], _ => []
  | i :: is, s =>
    match exec i s with
    | .next t =>
      if writesLedAndDuty i s then (t.led, t.duty) :: ledAndDutyWrites is t else ledAndDutyWrites is t
    | .fault _ => []
    | .refused _ => []

/-- The bits `d, d ^ 1, d, …` of a given length. -/
def alternating : Nat → Bit → List Bit
  | 0, _ => []
  | n + 1, d => d :: alternating n (d ^^^ 1)

/-- The states some run reaches from power-on, for every draw of the open power-on values
(70_reset_and_hazards.md R210, R233). -/
inductive Reachable : State → Prop where
  | start (bus latch display : Byte) : Reachable (State.powerOn params bus latch display)
  | next (i : Instr) (s t : State) : Reachable s → exec i s = .next t → Reachable t

/-! ### The invariants of 10_state.md R45 -/

/-- R45.2: with the tick source disabled the controller's elements are at rest. -/
def restsWhenDisabled (s : State) : Prop :=
  s.tickEn = false →
    s.elapsed = 0 ∧ s.tickPend = false ∧ s.led = 0 ∧ s.duty = params.dutyOff

/-- R45.3, with what LED and DUTY hold in an active cycle (R41): some phase's duty, and that phase's
mask of ELAPSED. -/
def showsPhaseWhenActive (s : State) : Prop :=
  s.tickEn = true →
    s.finished = false ∧ ∃ p : Phase, s.duty = phaseDuty p ∧ s.led = gen p s.elapsed

/-- The latched byte drives the digit still selected, until it is written (41_events.md R161). -/
def latchMatchesDigit (s : State) : Prop :=
  s.fgPhase = .write → digitOf s.fgLatch = s.digit

/-- The invariant of the machine (10_state.md R45). -/
structure Inv (s : State) : Prop where
  /-- R45.1 -/
  enables : s.startEn = !s.tickEn
  /-- R45.2 -/
  rests : restsWhenDisabled s
  /-- R45.3 -/
  shows : showsPhaseWhenActive s
  /-- R45.4 -/
  bounded : s.elapsed.toNat ≤ 127
  /-- R45.5 and 41_events.md R161 -/
  latch : latchMatchesDigit s

/-! ### Infinite runs and fairness (60_exceptions.md R201) -/

/-- An infinite run: a label and a state for each step (70_reset_and_hazards.md R233). -/
structure InfiniteRun where
  label : Nat → Instr
  state : Nat → State
  steps : ∀ n, exec (label n) (state n) = .next (state (n + 1))

/-- A step that from some point on always exists is taken at or after that point. -/
def InfiniteRun.eventuallyTaken (r : InfiniteRun) (i : Instr) : Prop :=
  ∀ n, (∀ m, n ≤ m → stepExists i (r.state m) = true) → ∃ m, n ≤ m ∧ r.label m = i

/-- The fairness assumptions of 60_exceptions.md R201. The step function does not enforce them. -/
structure InfiniteRun.Fair (r : InfiniteRun) : Prop where
  /-- Every handler that stays enabled is eventually taken. -/
  handlersTaken : ∀ i ∈ handlers, r.eventuallyTaken i
  /-- A foreground step that stays enabled is eventually taken. -/
  foregroundTaken : ∀ i ∈ foregroundSteps, r.eventuallyTaken i
  /-- While TICK_EN = 1, `ev.tick` occurs infinitely often. -/
  ticksOccur : ∀ n, (∀ m, n ≤ m → (r.state m).tickEn = true) → ∃ m, n ≤ m ∧ r.label m = .evTick
  /-- `ev.refresh` occurs infinitely often. -/
  refreshesOccur : ∀ n, ∃ m, n ≤ m ∧ r.label m = .evRefresh

end Sys2Proof.Machine
end

