-- ==== Sys2Proof/WellFormed.lean ====
section
/-!
DEFINITION. The checks on what is written down before the machine runs: on an event word (30_encoding.md
R83) and on an input layout (R70). An `Instr` needs none of its own: its one operand is 8 bits wide by
its type and `ev.in` admits every value (41_events.md R144). The checks on pseudo-instructions stand
with them in Machine/Script.lean.
-/
namespace Sys2Proof

/-- The allocated opcodes of 30_encoding.md R81. -/
def allocatedOpcodes : List Opcode := [0x1, 0x2, 0x3, 0x4, 0x5, 0x8, 0x9, 0xA, 0xC, 0xD]

/-- First check on a word: its opcode is not reserved (30_encoding.md R81). -/
def opcodeAllocated (w : EventWord) : Bool :=
  allocatedOpcodes.contains (w.extractLsb' 8 4)

/-- Second check on a word: IMM is 0 unless the opcode is that of `ev.in` (30_encoding.md R80). -/
def immediateAllowed (w : EventWord) : Bool :=
  w.extractLsb' 8 4 == 0x5 || w.extractLsb' 0 8 == 0

/-- A word that is not reserved (30_encoding.md R83). -/
def wordWellFormed (w : EventWord) : Bool :=
  opcodeAllocated w && immediateAllowed w

/-- SEL_BIT does not fall inside LEVEL (30_encoding.md R70). -/
def Params.selOutsideLevel (c : Params) : Bool :=
  c.selBit.val != c.levelLsb.val && c.selBit.val != c.levelLsb.val + 1

/-- SEL_BIT does not fall inside FLT (30_encoding.md R70). -/
def Params.selOutsideFault (c : Params) : Bool :=
  c.selBit.val != c.faultLsb.val && c.selBit.val != c.faultLsb.val + 1

/-- DUTY_OFF lies outside the active duty values (00_scope.md R6; source wording in 91_not_in_source.md
N11: "a duty value outside the active range"). -/
def Params.offIsOutsideActive (c : Params) : Bool :=
  c.dutyOff != 230 && c.dutyOff != 128 && c.dutyOff != 26

/-- A parameter record the spec admits. That LEVEL_LSB and FAULT_LSB are at most 6 is in their types. -/
def Params.wellFormed (c : Params) : Bool :=
  c.selOutsideLevel && c.selOutsideFault && c.offIsOutsideActive

end Sys2Proof
end

