-- ==== Sys2Proof/Certificates/Slice0/Obligations.lean ====
section
/-!
DEFINITION. The statements for the provers, in the order of the spec's files. A statement about a state
change gives the whole next state as the old one with the named elements written, so it is the frame as
well: every element it does not name keeps its value. The block has no memory (20_memory.md R50).
-/
open Sys2Proof Sys2Proof.Machine

/-! ### Encodings (30_encoding.md) -/

/-- 30_encoding.md R82: the decoder's three cases, and how many words spell instructions. -/
def Obligations.DecodeIsTheTableOfEvents : Prop :=
  (∀ w : EventWord,
    (w.extractLsb' 8 4 = 0x5 → decode w = .ok (.evIn (w.extractLsb' 0 8))) ∧
    (w.extractLsb' 8 4 = 0x1 → w.extractLsb' 0 8 = 0 → decode w = .ok .evStart) ∧
    (w.extractLsb' 8 4 = 0x2 → w.extractLsb' 0 8 = 0 → decode w = .ok .evReset) ∧
    (w.extractLsb' 8 4 = 0x3 → w.extractLsb' 0 8 = 0 → decode w = .ok .evTick) ∧
    (w.extractLsb' 8 4 = 0x4 → w.extractLsb' 0 8 = 0 → decode w = .ok .evRefresh) ∧
    (w.extractLsb' 8 4 = 0x8 → w.extractLsb' 0 8 = 0 → decode w = .ok .isrStart) ∧
    (w.extractLsb' 8 4 = 0x9 → w.extractLsb' 0 8 = 0 → decode w = .ok .isrReset) ∧
    (w.extractLsb' 8 4 = 0xA → w.extractLsb' 0 8 = 0 → decode w = .ok .isrTick) ∧
    (w.extractLsb' 8 4 = 0xC → w.extractLsb' 0 8 = 0 → decode w = .ok .fgSample) ∧
    (w.extractLsb' 8 4 = 0xD → w.extractLsb' 0 8 = 0 → decode w = .ok .fgWrite) ∧
    (w.extractLsb' 8 4 ≠ 0x5 →
      (w.extractLsb' 8 4 ∉ ([0x1, 0x2, 0x3, 0x4, 0x8, 0x9, 0xA, 0xC, 0xD] : List Opcode) ∨
        w.extractLsb' 0 8 ≠ 0) →
      decode w = .error (.reservedEncoding w))) ∧
  ((List.range 4096).filter fun n => (decode (BitVec.ofNat 12 n)).toOption.isSome).length = 265 ∧
  ((List.range 4096).filter fun n => (decode (BitVec.ofNat 12 n)).toOption.isNone).length = 3831

/-- 30_encoding.md R83: a reserved word is refused, whatever the state, and names no instruction. -/
def Obligations.ReservedWordsAreRefused : Prop :=
  ∀ w : EventWord,
    (w.extractLsb' 8 4 ∈ ([0x0, 0x6, 0x7, 0xB, 0xE, 0xF] : List Opcode) ∨
      (w.extractLsb' 8 4 ≠ 0x5 ∧ w.extractLsb' 0 8 ≠ 0)) →
    (∀ i : Instr, encode i ≠ w ∧ decode w ≠ .ok i) ∧
    (∀ (s : State) (rest : List EventWord), s.script = w :: rest →
      step s = .refused (.reservedEncoding w)) ∧
    wordWellFormed w = false

/-- Decode and encode agree in both directions, for every instruction with every operand and for every
word (30_encoding.md R80 to R82). -/
def Obligations.DecodeInvertsEncode : Prop :=
  (∀ i : Instr, decode (encode i) = .ok i) ∧
  (∀ (w : EventWord) (i : Instr), decode w = .ok i → encode i = w) ∧
  (∀ w : EventWord, wordWellFormed w = true ↔ ∃ i, decode w = .ok i)

/-- Words of each family written out from the opcode map (30_encoding.md R81; 95_test_vectors.md V-DEC). -/
def Obligations.OpcodeMapWords : Prop :=
  decode 0x100 = .ok .evStart ∧ decode 0x200 = .ok .evReset ∧ decode 0x300 = .ok .evTick ∧
  decode 0x400 = .ok .evRefresh ∧ decode 0x500 = .ok (.evIn 0x00) ∧ decode 0x5FF = .ok (.evIn 0xFF) ∧
  decode 0x507 = .ok (.evIn 0x07) ∧ decode 0x800 = .ok .isrStart ∧ decode 0x900 = .ok .isrReset ∧
  decode 0xA00 = .ok .isrTick ∧ decode 0xC00 = .ok .fgSample ∧ decode 0xD00 = .ok .fgWrite ∧
  decode 0x1FF = .error (.reservedEncoding 0x1FF) ∧ decode 0xA01 = .error (.reservedEncoding 0xA01) ∧
  decode 0x000 = .error (.reservedEncoding 0x000) ∧ decode 0xB00 = .error (.reservedEncoding 0xB00) ∧
  decode 0xFFF = .error (.reservedEncoding 0xFFF)

/-- 30_encoding.md R71: the field extractors, as arithmetic on the sample, for every layout. -/
def Obligations.InputFieldExtractors : Prop :=
  ∀ (c : Params) (bus : Byte),
    (levelField c bus).toNat = bus.toNat / 2 ^ c.levelLsb.val % 4 ∧
    (extendedSelected c bus = true ↔ bus.toNat / 2 ^ c.selBit.val % 2 = 1) ∧
    (faultPattern c bus = true ↔ bus.toNat / 2 ^ c.faultLsb.val % 4 = 3)

/-- 30_encoding.md R72: the eight classes of IN[2:0] under the default layout, IN[7:3] being don't-care. -/
def Obligations.DefaultInputClasses : Prop :=
  ∀ hi : BitVec 5,
    (classify params (hi ++ 0b000#3) = .valid .normal ∧ valueIndex params (hi ++ 0b000#3) 0 = 0 ∧
      valueIndex params (hi ++ 0b000#3) 1 = 4) ∧
    (classify params (hi ++ 0b001#3) = .valid .normal ∧ valueIndex params (hi ++ 0b001#3) 0 = 1 ∧
      valueIndex params (hi ++ 0b001#3) 1 = 4) ∧
    (classify params (hi ++ 0b010#3) = .valid .normal ∧ valueIndex params (hi ++ 0b010#3) 0 = 2 ∧
      valueIndex params (hi ++ 0b010#3) 1 = 4) ∧
    (classify params (hi ++ 0b011#3) = .invalid ∧ valueIndex params (hi ++ 0b011#3) 0 = 3 ∧
      valueIndex params (hi ++ 0b011#3) 1 = 4) ∧
    (classify params (hi ++ 0b100#3) = .valid .extended ∧ valueIndex params (hi ++ 0b100#3) 0 = 0 ∧
      valueIndex params (hi ++ 0b100#3) 1 = 3) ∧
    (classify params (hi ++ 0b101#3) = .valid .extended ∧ valueIndex params (hi ++ 0b101#3) 0 = 1 ∧
      valueIndex params (hi ++ 0b101#3) 1 = 3) ∧
    (classify params (hi ++ 0b110#3) = .valid .extended ∧ valueIndex params (hi ++ 0b110#3) 0 = 2 ∧
      valueIndex params (hi ++ 0b110#3) 1 = 3) ∧
    (classify params (hi ++ 0b111#3) = .invalid ∧ valueIndex params (hi ++ 0b111#3) 0 = 3 ∧
      valueIndex params (hi ++ 0b111#3) 1 = 3)

/-- The text of a script (30_encoding.md R85) reads back as the events it was written from: no event and
no operand is lost. How blanks and hex digits are laid out is the model's choice, log entry 15. -/
def Obligations.ScriptTextReadsBack : Prop :=
  ∀ is : List Instr, readScript (writeScript is) = some is

/-- 30_encoding.md R86: the nine pseudo-instructions and their exact expansions. That `in.nrm L` and
`in.ext L` are well-formed exactly for L up to 2 is the model's choice, log entry 15: R86 says both "a
level 0 to 3" and, in its table, "in 0..2". -/
def Obligations.PseudoInstructionExpansions : Prop :=
  Pseudo.pressStart.expand = [.evStart, .isrStart] ∧
  Pseudo.pressReset.expand = [.evReset, .isrReset] ∧
  (Pseudo.tick 1).expand = [.evTick, .isrTick] ∧
  (∀ n, (Pseudo.tick n).expand = (List.replicate n [Instr.evTick, Instr.isrTick]).flatten) ∧
  (Pseudo.refresh 1).expand = [.evRefresh, .fgSample, .fgWrite] ∧
  (∀ n, (Pseudo.refresh n).expand =
    (List.replicate n [Instr.evRefresh, Instr.fgSample, Instr.fgWrite]).flatten) ∧
  (Pseudo.inNormal 0).expand = [.evIn 0] ∧ (Pseudo.inNormal 1).expand = [.evIn 1] ∧
  (Pseudo.inNormal 2).expand = [.evIn 2] ∧
  (Pseudo.inExtended 0).expand = [.evIn 4] ∧ (Pseudo.inExtended 1).expand = [.evIn 5] ∧
  (Pseudo.inExtended 2).expand = [.evIn 6] ∧
  Pseudo.inFault.expand = [.evIn 3] ∧
  (∀ n, (Pseudo.tick n).wellFormed = true ↔ 1 ≤ n) ∧
  (∀ n, (Pseudo.refresh n).wellFormed = true ↔ 1 ≤ n) ∧
  (∀ l, (Pseudo.inNormal l).wellFormed = true ↔ l ≤ 2) ∧
  (∀ l, (Pseudo.inExtended l).wellFormed = true ↔ l ≤ 2)

/-! ### State, power-on and views (10_state.md, 70_reset_and_hazards.md) -/

/-- 70_reset_and_hazards.md R210: the power-on state, for every parameter record, every input value and
every draw of FG_LATCH and DISP. -/
def Obligations.PowerOnState : Prop :=
  ∀ (c : Params) (bus latch display : Byte) (s : State),
    s = State.powerOn c bus latch display →
    s.elapsed = 0 ∧ s.finished = false ∧ s.tickEn = false ∧ s.startEn = true ∧ s.resetEn = true ∧
    s.tickPend = false ∧ s.startPend = false ∧ s.resetPend = false ∧ s.refreshFlag = false ∧
    s.digit = 0 ∧ s.fgPhase = .wait ∧ s.fgLatch = latch ∧
    s.led = 0b0000 ∧ s.duty = c.dutyOff ∧ s.disp = display ∧ s.inBus = bus ∧
    s.ctrlView = 0x06 ∧ s.pendView = 0x00

/-- The model's reset is the power-on state with the three open values drawn as 0 (log entry 5, the
model's choice) and no event script (log entry 1, the model's choice), and it idles there (log entry 2,
the model's choice; 41_events.md R164). -/
def Obligations.ResetStateIdlesWithoutEvents : Prop :=
  State.reset = State.powerOn params 0 0 0 ∧ State.reset.cycleState = .idle ∧
  step State.reset = .next State.reset

/-- 10_state.md R35: the bits of the CTRL and PEND views. -/
def Obligations.ControlAndPendingViews : Prop :=
  ∀ s : State,
    s.ctrlView.getLsbD 0 = s.tickEn ∧ s.ctrlView.getLsbD 1 = s.startEn ∧ s.ctrlView.getLsbD 2 = true ∧
    s.ctrlView.getLsbD 3 = s.finished ∧ s.ctrlView.getLsbD 4 = (s.digit == 1) ∧
    s.ctrlView.getLsbD 5 = (s.fgPhase == .write) ∧ s.ctrlView.extractLsb' 6 2 = 0 ∧
    s.pendView.getLsbD 0 = s.tickPend ∧ s.pendView.getLsbD 1 = s.startPend ∧
    s.pendView.getLsbD 2 = s.resetPend ∧ s.pendView.getLsbD 3 = s.refreshFlag ∧
    s.pendView.extractLsb' 4 4 = 0 ∧
    (∀ (c : Params) (bus latch display : Byte),
      (State.powerOn c bus latch display).ctrlView = 0x06 ∧
      (State.powerOn c bus latch display).pendView = 0x00)

/-- 10_state.md R26: the Reset trigger is hardwired on, so a pending Reset is accepted in every state. -/
def Obligations.ResetTriggerIsAlwaysLive : Prop :=
  (∀ s : State, s.resetEn = true) ∧
  (∀ (i : Instr) (s t : State), exec i s = .next t → t.resetEn = s.resetEn) ∧
  (∀ s : State, s.resetPend = true → ∃ t, exec .isrReset s = .next t ∧ t.tickEn = false) ∧
  (∀ s : State, ∃ t, runEvents [.evReset, .isrReset] s = .next t ∧ t.tickEn = false)

/-- The writers column of 10_state.md R20: no step changes an element it is not listed as a writer of.
The isr.reset entry of FINISHED is absent, because the machine runs with RESET_CLEARS_FINISHED = false
(the spec's default, log entry 9); no step changes the model's own script field. -/
def Obligations.OnlyListedWritersChangeAnElement : Prop :=
  ∀ (i : Instr) (s t : State), exec i s = .next t →
    (t.elapsed ≠ s.elapsed → i = .isrStart ∨ i = .isrTick ∨ i = .isrReset) ∧
    (t.finished ≠ s.finished → i = .isrStart ∨ i = .isrTick) ∧
    (t.tickEn ≠ s.tickEn → i = .isrStart ∨ i = .isrTick ∨ i = .isrReset) ∧
    (t.startEn ≠ s.startEn → i = .isrStart ∨ i = .isrTick ∨ i = .isrReset) ∧
    (t.tickPend ≠ s.tickPend → i = .evTick ∨ i = .isrTick ∨ i = .isrReset) ∧
    (t.startPend ≠ s.startPend → i = .evStart ∨ i = .isrStart ∨ i = .isrTick ∨ i = .isrReset) ∧
    (t.resetPend ≠ s.resetPend → i = .evReset ∨ i = .isrReset) ∧
    (t.refreshFlag ≠ s.refreshFlag → i = .evRefresh ∨ i = .fgSample) ∧
    (t.digit ≠ s.digit → i = .fgWrite) ∧
    (t.fgPhase ≠ s.fgPhase → i = .fgSample ∨ i = .fgWrite) ∧
    (t.fgLatch ≠ s.fgLatch → i = .fgSample) ∧
    (t.led ≠ s.led → i = .isrStart ∨ i = .isrTick ∨ i = .isrReset) ∧
    (t.duty ≠ s.duty → i = .isrStart ∨ i = .isrTick ∨ i = .isrReset) ∧
    (t.disp ≠ s.disp → i = .fgWrite) ∧
    (t.inBus ≠ s.inBus → ∃ v, i = .evIn v) ∧
    t.script = s.script

/-- The invariant of 10_state.md R45 holds at power-on, for every draw of the open values. -/
def Obligations.PowerOnMeetsTheInvariant : Prop :=
  ∀ bus latch display : Byte, Inv (State.powerOn params bus latch display)

/-- Every step keeps the invariant of 10_state.md R45 (with R41's reading of LED and DUTY in an active
cycle and R161's reading of the latched digit), from every state that meets it. -/
def Obligations.StepKeepsTheInvariant : Prop :=
  ∀ s t : State, Inv s → step s = .next t → Inv t

/-- 10_state.md R45, items 1 to 4, in every reachable state. The inference is the spec's own. -/
def Obligations.ReachableStatesAreConsistent : Prop :=
  ∀ s : State, Reachable s →
    s.startEn = !s.tickEn ∧
    (s.tickEn = false → s.elapsed = 0 ∧ s.tickPend = false ∧ s.led = 0 ∧ s.duty = params.dutyOff) ∧
    (s.tickEn = true →
      s.finished = false ∧ s.elapsed.toNat ≤ 127 ∧ (s.duty = 230 ∨ s.duty = 128 ∨ s.duty = 26)) ∧
    s.elapsed.toNat ≤ 127

/-- 10_state.md R46: while a cycle is active ELAPSED never falls, only a tick moves it, and by 1. The
inference is the spec's own; the invariant rules out states no run reaches. -/
def Obligations.ElapsedNeverFallsWhileActive : Prop :=
  ∀ (i : Instr) (s t : State), Inv s → exec i s = .next t → s.tickEn = true → t.tickEn = true →
    (i ≠ .isrTick → t.elapsed = s.elapsed) ∧
    (i = .isrTick → classify params s.inBus = .invalid → t.elapsed = s.elapsed) ∧
    (i = .isrTick → classify params s.inBus ≠ .invalid → t.elapsed.toNat = s.elapsed.toNat + 1)

/-- 10_state.md R44, second commitment: FINISHED is set only by the tick that completes an active cycle. -/
def Obligations.FinishedOnlyByTheCompletionTick : Prop :=
  ∀ (i : Instr) (s t : State), exec i s = .next t → s.finished = false → t.finished = true →
    i = .isrTick ∧ s.tickEn = true ∧ s.tickPend = true ∧
    ∃ m, classify params s.inBus = .valid m ∧ phase m (s.elapsed + 1) = .complete

/-- 70_reset_and_hazards.md R212: the Reset button against a power-on. The inference is the spec's own. -/
def Obligations.ResetButtonIsNotPowerOn : Prop :=
  ∀ s : State, s.resetPend = true →
    exec .isrReset s = .next { State.powerOn params s.inBus s.fgLatch s.disp with
      finished := s.finished
      refreshFlag := s.refreshFlag
      digit := s.digit
      fgPhase := s.fgPhase
      script := s.script }

/-! ### Combinational functions (40_functions.md) -/

/-- 40_functions.md R100: the classifier by the bits of the sample, for every layout; under the default
layout IN[7:3] is ignored. -/
def Obligations.ClassifierByInputBits : Prop :=
  (∀ (c : Params) (bus : Byte),
    (classify c bus = .invalid ↔
      bus.getLsbD c.faultLsb.val = true ∧ bus.getLsbD (c.faultLsb.val + 1) = true) ∧
    (classify c bus = .valid .extended ↔
      ¬(bus.getLsbD c.faultLsb.val = true ∧ bus.getLsbD (c.faultLsb.val + 1) = true) ∧
      bus.getLsbD c.selBit.val = true) ∧
    (classify c bus = .valid .normal ↔
      ¬(bus.getLsbD c.faultLsb.val = true ∧ bus.getLsbD (c.faultLsb.val + 1) = true) ∧
      bus.getLsbD c.selBit.val = false)) ∧
  (∀ a b : Byte, a.extractLsb' 0 3 = b.extractLsb' 0 3 → classify params a = classify params b)

/-- 40_functions.md R104: the wash pattern by LED position. -/
def Obligations.WashPattern : Prop :=
  ∀ e : Byte,
    (e.toNat / 2 % 16 < 8 → ∀ p < 4, (wash e).getLsbD p = decide (p = e.toNat / 2 % 4)) ∧
    (8 ≤ e.toNat / 2 % 16 → wash e = 0b1111)

/-- 40_functions.md R105: the rinse pattern by LED position. -/
def Obligations.RinsePattern : Prop :=
  ∀ e : Byte,
    (e.toNat / 2 % 16 < 8 → ∀ p < 4, (rinse e).getLsbD p = decide (p + e.toNat / 2 % 4 = 3)) ∧
    (8 ≤ e.toNat / 2 % 16 → e.toNat / 2 % 16 < 12 → rinse e = 0b1111) ∧
    (12 ≤ e.toNat / 2 % 16 → rinse e = 0b0000)

/-- 40_functions.md R106: the spin pattern by LED position. -/
def Obligations.SpinPattern : Prop :=
  ∀ e : Byte,
    (e.toNat / 2 % 16 < 4 → ∀ p < 4, (spin e).getLsbD p = decide (p = e.toNat / 2 % 4)) ∧
    (4 ≤ e.toNat / 2 % 16 → e.toNat / 2 % 16 < 8 →
      ∀ p < 4, (spin e).getLsbD p = decide (p + e.toNat / 2 % 4 = 3)) ∧
    (8 ≤ e.toNat / 2 % 16 → e.toNat % 2 = 0 → spin e = 0b1111) ∧
    (8 ≤ e.toNat / 2 % 16 → e.toNat % 2 = 1 → spin e = 0b0000)

/-- 40_functions.md R107: the generators depend only on `e mod 32`, and the phases they are called in
bound `e`. The inference is the spec's own. -/
def Obligations.PatternsRepeatEvery32Ticks : Prop :=
  (∀ e f : Byte, e.toNat % 32 = f.toNat % 32 → wash e = wash f ∧ rinse e = rinse f ∧ spin e = spin f) ∧
  (∀ (m : CycleMode) (e : Byte),
    (phase m e = .active .wash → e.toNat ≤ 31) ∧
    (phase m e = .active .rinse → 32 ≤ e.toNat ∧ e.toNat ≤ 95) ∧
    (phase m e = .active .spin → 64 ≤ e.toNat ∧ e.toNat ≤ 127))

/-- 40_functions.md R110: the phase of each elapsed value in each valid mode. -/
def Obligations.PhaseThresholds : Prop :=
  ∀ e : Byte,
    (phase .extended e = .active .wash ↔ e.toNat < 32) ∧
    (phase .extended e = .active .rinse ↔ 32 ≤ e.toNat ∧ e.toNat < 96) ∧
    (phase .extended e = .active .spin ↔ 96 ≤ e.toNat ∧ e.toNat < 128) ∧
    (phase .extended e = .complete ↔ 128 ≤ e.toNat) ∧
    (phase .normal e = .active .wash ↔ e.toNat < 32) ∧
    (phase .normal e = .active .rinse ↔ 32 ≤ e.toNat ∧ e.toNat < 64) ∧
    (phase .normal e = .active .spin ↔ 64 ≤ e.toNat ∧ e.toNat < 96) ∧
    (phase .normal e = .complete ↔ 96 ≤ e.toNat)

/-- 40_functions.md R112 and R113: each phase's generator and duty byte. The pairing of 230, 128 and 26
with wash, rinse and spin is an inference the spec marks as its own (R113's "[derived: from §6 polarity
and §9 order, see 92_eei_decisions.md D30]"); log entry 16. -/
def Obligations.PhaseOutputs : Prop :=
  (∀ e : Byte, gen .wash e = wash e ∧ gen .rinse e = rinse e ∧ gen .spin e = spin e) ∧
  phaseDuty .wash = 230 ∧ phaseDuty .rinse = 128 ∧ phaseDuty .spin = 26

/-- 40_functions.md R114: what a mode change does to the next valid tick. The inference is the spec's
own. -/
def Obligations.ModeChangeMovesTheThresholds : Prop :=
  ∀ x : Byte,
    (95 ≤ x.toNat → x.toNat ≤ 127 → phase .normal (x + 1) = .complete) ∧
    (63 ≤ x.toNat → x.toNat ≤ 94 →
      phase .normal (x + 1) = .active .spin ∧ phase .extended (x + 1) = .active .rinse)

/-- 40_functions.md R120: the glyph index, from the raw bits of the sample, for every layout; under a
fault of the default layout, digit 0 shows index 3. -/
def Obligations.GlyphIndexFromRawBits : Prop :=
  (∀ (c : Params) (bus : Byte),
    (valueIndex c bus 0).val = bus.toNat / 2 ^ c.levelLsb.val % 4 ∧
    (bus.getLsbD c.selBit.val = true → valueIndex c bus 1 = 3) ∧
    (bus.getLsbD c.selBit.val = false → valueIndex c bus 1 = 4)) ∧
  (∀ bus : Byte, faultPattern params bus = true → valueIndex params bus 0 = 3)

/-- 40_functions.md R121: the display byte's two fields, for every glyph table. -/
def Obligations.RenderedByteFields : Prop :=
  ∀ (c : Params) (idx : Fin 5) (d : Bit),
    (render c idx d true).extractLsb' 0 7 = c.doneGlyph ∧
    (render c idx d false).extractLsb' 0 7 = c.glyph[idx] ∧
    (render c idx d true).extractLsb' 7 1 = d ∧
    (render c idx d false).extractLsb' 7 1 = d

/-- 40_functions.md R122: decoding the top bit recovers the digit, and the two completion bytes differ in
bit 7 only. The inference is the spec's own. -/
def Obligations.DisplayDigitRoundTrip : Prop :=
  (∀ (c : Params) (idx : Fin 5) (d : Bit) (f : Bool), digitOf (render c idx d f) = d) ∧
  (∀ (c : Params) (i j : Fin 5), render c i 0 true ^^^ render c j 1 true = 0x80)

/-! ### Events (41_events.md sections 1 and 4) -/

/-- When a step exists: in every state each instruction either takes its step, exactly where its guard
holds, or is stuck by name; none is refused (00_scope.md R10, 41_events.md R164, 60_exceptions.md R182).
That a stuck label answers as a named fault is the model's choice, log entry 3. -/
def Obligations.StepExistsExactlyUnderItsGuard : Prop :=
  ∀ (i : Instr) (s : State),
    (stepExists i s = true → ∃ t, exec i s = .next t) ∧
    (stepExists i s = false → ∃ f, exec i s = .fault f)

/-- A step runs the decoded instruction: where the script's next word decodes to `i`, the step is `exec`
of `i` on the state with that word taken off (30_encoding.md R82, R84). With no word left nothing
changes: the model's choice, log entry 2. -/
def Obligations.StepRunsTheDecodedEvent : Prop :=
  (∀ (s : State) (w : EventWord) (rest : List EventWord) (i : Instr),
    s.script = w :: rest → decode w = .ok i → step s = exec i { s with script := rest }) ∧
  (∀ s : State, s.script = [] → step s = .next s)

/-- The number `withFetchWord` places is the next event: where the decoder reads `i` from it, the next
step is `exec` of `i` on the state itself. -/
def Obligations.PlacedWordIsTheNextEvent : Prop :=
  ∀ (s : State) (nbits w : Nat) (i : Instr),
    decodeTableWord nbits w = some i → step (s.withFetchWord nbits w) = exec i s

/-- 30_encoding.md R84: stepping the machine through a loaded script is taking its events in order, with
the same end state, or stuck at the same event for the same reason. That a stuck run answers as a named
fault is the model's choice, log entry 3. -/
def Obligations.LoadedScriptRunsInOrder : Prop :=
  ∀ (is : List Instr) (s : State),
    Host.Core.run Sys2Proof.core is.length (loadScript is s) = runEvents is { s with script := [] }

/-- 41_events.md R140. -/
def Obligations.StartEdgeIsLatched : Prop :=
  decode 0x100 = .ok .evStart ∧
  (∀ s : State, exec .evStart s = .next { s with startPend := true }) ∧
  (∀ s : State, s.startPend = true → exec .evStart s = .next s) ∧
  (∀ (c : Params) (s : State), (doReset c { s with startPend := true }).startPend = false)

/-- 41_events.md R141. -/
def Obligations.ResetEdgeIsLatched : Prop :=
  decode 0x200 = .ok .evReset ∧
  (∀ s : State, exec .evReset s = .next { s with resetPend := true }) ∧
  (∀ s : State, s.resetPend = true → exec .evReset s = .next s)

/-- 41_events.md R142. That `ev.tick` with TICK_EN = 0, which has no step, answers as a named fault is
the model's choice, log entry 3 (30_encoding.md R84: stuck, not a fault). -/
def Obligations.TickNeedsItsSourceEnabled : Prop :=
  decode 0x300 = .ok .evTick ∧
  (∀ s : State, s.tickEn = true → exec .evTick s = .next { s with tickPend := true }) ∧
  (∀ s : State, s.tickEn = false → exec .evTick s = .fault .stuckTickSourceDisabled) ∧
  (∀ s : State, s.tickEn = true → s.tickPend = true → exec .evTick s = .next s)

/-- 41_events.md R143. -/
def Obligations.RefreshSetsItsFlag : Prop :=
  decode 0x400 = .ok .evRefresh ∧
  (∀ s : State, exec .evRefresh s = .next { s with refreshFlag := true }) ∧
  (∀ s : State, s.refreshFlag = true → exec .evRefresh s = .next s)

/-- 41_events.md R144. -/
def Obligations.InputTakesAnyValue : Prop :=
  ∀ v : Byte,
    decode (0x500 ||| v.setWidth 12) = .ok (.evIn v) ∧
    ∀ s : State, exec (.evIn v) s = .next { s with inBus := v }

/-! ### Handlers (41_events.md section 2) -/

/-- 41_events.md R145. That `isr.start` with a false guard, which has no step, answers as a named fault
is the model's choice, log entry 3 (30_encoding.md R84: stuck, not a fault). -/
def Obligations.StartHandler : Prop :=
  decode 0x800 = .ok .isrStart ∧
  ∀ s : State,
    (s.startEn = true → s.startPend = true → classify params s.inBus ≠ .invalid →
      exec .isrStart s = .next { s with
        startPend := false, finished := false, elapsed := 0, tickEn := true, duty := 230,
        led := 0b0001, startEn := false }) ∧
    (s.startEn = true → s.startPend = true → classify params s.inBus = .invalid →
      exec .isrStart s = .next { s with startPend := false }) ∧
    (s.startEn = false ∨ s.startPend = false → exec .isrStart s = .fault .stuckStartNotTaken)

/-- 41_events.md R152: a start under the fault pattern changes the pending latch alone. The inference is
the spec's own. That the pattern stands at IN[1:0] is the default layout the machine runs with, the
model's choice, log entry 7. -/
def Obligations.InvalidStartChangesOnlyItsLatch : Prop :=
  ∀ s : State, s.startEn = true → s.startPend = true → s.inBus.extractLsb' 0 2 = 0b11 →
    ∃ t, exec .isrStart s = .next t ∧ t = { s with startPend := false } ∧
      t.cycleState = s.cycleState ∧ t.tickEn = s.tickEn

/-- 41_events.md R146. That `isr.tick` with a false guard, which has no step, answers as a named fault is
the model's choice, log entry 3 (30_encoding.md R84: stuck, not a fault). -/
def Obligations.TickHandler : Prop :=
  decode 0xA00 = .ok .isrTick ∧
  ∀ s : State,
    (s.tickEn = true → s.tickPend = true → classify params s.inBus = .invalid →
      exec .isrTick s = .next { s with tickPend := false }) ∧
    (∀ m p, s.tickEn = true → s.tickPend = true → classify params s.inBus = .valid m →
      phase m (s.elapsed + 1) = .active p →
      exec .isrTick s = .next { s with
        tickPend := false, elapsed := s.elapsed + 1, duty := phaseDuty p,
        led := gen p (s.elapsed + 1) }) ∧
    (∀ m, s.tickEn = true → s.tickPend = true → classify params s.inBus = .valid m →
      phase m (s.elapsed + 1) = .complete →
      exec .isrTick s = .next { s with
        tickPend := false, elapsed := 0, tickEn := false, duty := params.dutyOff, led := 0b0000,
        startEn := true, startPend := false, finished := true }) ∧
    (s.tickEn = false ∨ s.tickPend = false → exec .isrTick s = .fault .stuckTickNotTaken)

/-- The phase of an active cycle is the one the last counted tick dispatched to, and wash after a start
(10_state.md R41). That DUTY tells the phase is the model's inference, log entry 14. -/
def Obligations.ActivePhaseIsTheLastDispatched : Prop :=
  (∀ s : State, s.startEn = true → s.startPend = true → classify params s.inBus ≠ .invalid →
    ∃ t, exec .isrStart s = .next t ∧ t.activePhase = some .wash ∧ t.cycleState = .active 0) ∧
  (∀ (s : State) (m : CycleMode) (p : Phase), s.tickEn = true → s.tickPend = true →
    classify params s.inBus = .valid m → phase m (s.elapsed + 1) = .active p →
    ∃ t, exec .isrTick s = .next t ∧ t.activePhase = some p ∧
      t.cycleState = .active (s.elapsed + 1) ∧ t.dutyLevel = some (phaseDuty p)) ∧
  (∀ (s : State) (v : Byte), ∃ t, exec (.evIn v) s = .next t ∧ t.activePhase = s.activePhase)

/-- 41_events.md R147: under the fault pattern the tick is frozen; a later tick in a valid mode counts on
from the frozen ELAPSED. -/
def Obligations.TickFreezesUnderFault : Prop :=
  (∀ s : State, s.tickEn = true → s.tickPend = true → classify params s.inBus = .invalid →
    exec .isrTick s = .next { s with tickPend := false }) ∧
  (∀ (s : State) (v : Byte) (m : CycleMode) (p : Phase), s.tickEn = true → s.tickPend = true →
    classify params s.inBus = .invalid → classify params v = .valid m →
    phase m (s.elapsed + 1) = .active p →
    ∃ t, runEvents [.isrTick, .evIn v, .evTick, .isrTick] s = .next t ∧ t.elapsed = s.elapsed + 1)

/-- 41_events.md R148: the completion state, and when each mode completes. The bound on ELAPSED is item 4
of 10_state.md R45. -/
def Obligations.CompletionTick : Prop :=
  ∀ s : State, s.tickEn = true → s.tickPend = true → s.elapsed.toNat ≤ 127 →
    ((classify params s.inBus = .valid .extended ∧ s.elapsed.toNat = 127) ∨
      (classify params s.inBus = .valid .normal ∧ 95 ≤ s.elapsed.toNat) →
      ∃ t, exec .isrTick s = .next t ∧ t.cycleState = .finished ∧ t = { s with
        tickEn := false, startEn := true, elapsed := 0, led := 0, duty := params.dutyOff,
        tickPend := false, startPend := false, finished := true }) ∧
    ((classify params s.inBus = .valid .extended ∧ s.elapsed.toNat < 127) ∨
      (classify params s.inBus = .valid .normal ∧ s.elapsed.toNat < 95) ∨
      classify params s.inBus = .invalid →
      ∃ t, exec .isrTick s = .next t ∧ t.tickEn = true ∧ t.finished = s.finished)

/-- 41_events.md R149 and R150: the Reset handler under either value of RESET_CLEARS_FINISHED, and the
machine's own. That `exec` leaves FINISHED alone is the default the machine runs with, the model's
choice, log entry 9; that `isr.reset` with RESET_PEND = 0, which has no step, answers as a named fault is
the model's choice, log entry 3 (30_encoding.md R84: stuck, not a fault). -/
def Obligations.ResetHandler : Prop :=
  decode 0x900 = .ok .isrReset ∧
  (∀ (c : Params) (s : State),
    doReset c s = { s with
      elapsed := 0, tickEn := false, tickPend := false, duty := c.dutyOff, led := 0b0000,
      startEn := true, startPend := false }) ∧
  (∀ (c : Params) (s : State), s.resetPend = true →
    isrResetWith c s = .next { s with
      resetPend := false, elapsed := 0, tickEn := false, tickPend := false, duty := c.dutyOff,
      led := 0b0000, startEn := true, startPend := false,
      finished := s.finished && !c.resetClearsFinished }) ∧
  (∀ s : State, s.resetPend = true →
    exec .isrReset s = .next { s with
      resetPend := false, elapsed := 0, tickEn := false, tickPend := false, duty := params.dutyOff,
      led := 0b0000, startEn := true, startPend := false }) ∧
  (∀ s : State, s.resetPend = false → exec .isrReset s = .fault .stuckResetNotTaken)

/-- 41_events.md R151: a second Reset right after a first changes nothing. The inference is the spec's
own. -/
def Obligations.ResetIsIdempotent : Prop :=
  ∀ s t : State, exec .isrReset s = .next t → runEvents [.evReset, .isrReset] t = .next t

/-- A Reset taken while the display shows completion leaves the cycle Finished (10_state.md R41;
90_conflicts.md C4 and C6). It rests on the spec's default RESET_CLEARS_FINISHED = false, log entry 9. -/
def Obligations.ResetWhileFinishedStaysFinished : Prop :=
  ∀ s t : State, s.cycleState = .finished → runEvents [.evReset, .isrReset] s = .next t →
    t.cycleState = .finished

/-- 41_events.md R153: a Start edge in an active cycle starts nothing, and the end of the cycle clears its
latch. The inference is the spec's own; the invariant rules out states no run reaches. That the start not
taken answers as a named fault is the model's choice, log entry 3. -/
def Obligations.StartEdgeWhileActiveIsLost : Prop :=
  ∀ s : State, Inv s → s.tickEn = true →
    (runEvents [.evStart, .isrStart] s = .fault .stuckStartNotTaken) ∧
    (∀ (i : Instr) (t : State), exec i s = .next t → t.tickEn = false → t.startPend = false)

/-- 60_exceptions.md R186 and 70_reset_and_hazards.md R225: the two orders of a pending Reset and a
pending Tick end alike, but for FINISHED where the tick completes. The inference is the spec's own. That
Reset leaves FINISHED as it was is the default the machine runs with, the model's choice, log entry 9;
that the lost tick answers as a named fault is the model's choice, log entry 3. -/
def Obligations.ResetAndTickRace : Prop :=
  ∀ s : State, s.tickEn = true → s.tickPend = true → s.resetPend = true →
    ∃ a b, runEvents [.isrReset] s = .next a ∧ runEvents [.isrTick, .isrReset] s = .next b ∧
      exec .isrTick a = .fault .stuckTickNotTaken ∧
      a = { b with finished := a.finished } ∧ a.finished = s.finished ∧
      (b ≠ a → b.finished = true ∧
        ∃ m, classify params s.inBus = .valid m ∧ phase m (s.elapsed + 1) = .complete)

/-- n ticks in a steady valid mode (30_encoding.md R86, 60_exceptions.md R196): short of the mode's end
they add n to ELAPSED and leave the outputs of its phase; the tick that reaches the end completes the
cycle. The invariant rules out states no run reaches. -/
def Obligations.SteadyTicksCountToCompletion : Prop :=
  ∀ (n : Nat) (m : CycleMode) (s : State), Inv s → s.tickEn = true →
    classify params s.inBus = .valid m →
    (s.elapsed.toNat + n < spinEnd m →
      ∃ t, runEvents (Pseudo.tick n).expand s = .next t ∧ t.tickEn = true ∧
        t.elapsed.toNat = s.elapsed.toNat + n ∧
        (0 < n → ∃ p, phase m t.elapsed = .active p ∧ t.duty = phaseDuty p ∧
          t.led = gen p t.elapsed)) ∧
    (0 < n → s.elapsed.toNat + n = spinEnd m →
      ∃ t, runEvents (Pseudo.tick n).expand s = .next t ∧ t.cycleState = .finished ∧
        t.elapsed = 0 ∧ t.led = 0 ∧ t.duty = params.dutyOff)

/-- Along every run, each write to LED and DUTY is a phase's mask with that phase's duty, or both off
(10_state.md R32, 20_memory.md R63). The inference is the spec's own. -/
def Obligations.OnlyPhaseOutputsAreWritten : Prop :=
  ∀ (is : List Instr) (s : State), ∀ w ∈ ledAndDutyWrites is s,
    (∃ (p : Phase) (e : Byte), w = (gen p e, phaseDuty p)) ∨ w = (0b0000, params.dutyOff)

/-- 60_exceptions.md R201: under its fairness assumptions, with the input kept at a valid mode and no
Reset edge, an active cycle finishes. -/
def Obligations.FairActiveCycleFinishes : Prop :=
  ∀ r : InfiniteRun, r.Fair → Inv (r.state 0) → (r.state 0).tickEn = true →
    (r.state 0).resetPend = false →
    (∀ n, classify params (r.state n).inBus ≠ .invalid) → (∀ n, r.label n ≠ .evReset) →
    ∃ n, (r.state n).finished = true

/-! ### Foreground (41_events.md section 3) -/

/-- 41_events.md R160. That `fg.sample` with a false guard, which has no step, answers as a named fault is
the model's choice, log entry 3 (30_encoding.md R84: stuck, not a fault). -/
def Obligations.SampleStep : Prop :=
  decode 0xC00 = .ok .fgSample ∧
  ∀ s : State,
    (s.fgPhase = .wait → s.refreshFlag = true →
      exec .fgSample s = .next { s with
        refreshFlag := false, fgLatch := displayByte params s.inBus s.digit s.finished,
        fgPhase := .write }) ∧
    (s.fgPhase = .write ∨ s.refreshFlag = false → exec .fgSample s = .fault .stuckSampleNotReady)

/-- 41_events.md R161. That `fg.write` in WAIT, which has no step, answers as a named fault is the model's
choice, log entry 3 (30_encoding.md R84: stuck, not a fault). -/
def Obligations.WriteStep : Prop :=
  decode 0xD00 = .ok .fgWrite ∧
  ∀ s : State,
    (s.fgPhase = .write →
      exec .fgWrite s = .next { s with
        disp := s.fgLatch, digit := s.digit ^^^ 1, fgPhase := .wait }) ∧
    (s.fgPhase = .wait → exec .fgWrite s = .fault .stuckWriteNotReady) ∧
    (∀ u t, s.fgPhase = .wait → exec .fgSample s = .next u → exec .fgWrite u = .next t →
      digitOf t.disp = s.digit ∧ t.digit = ~~~s.digit)

/-- 41_events.md R162: the digit select of successive display writes alternates, along every run; after
power-on it starts from 0. The inference is the spec's own; the premise is item 5 of the invariant. -/
def Obligations.DisplayDigitsAlternate : Prop :=
  (∀ (is : List Instr) (s : State), latchMatchesDigit s →
    (displayWrites is s).map digitOf = alternating (displayWrites is s).length s.digit) ∧
  (∀ (is : List Instr) (bus latch display : Byte),
    (displayWrites is (State.powerOn params bus latch display)).map digitOf =
      alternating (displayWrites is (State.powerOn params bus latch display)).length 0)

/-- 41_events.md R163: what the foreground's steps leave alone. -/
def Obligations.ForegroundFrame : Prop :=
  ∀ (i : Instr) (s t : State), i = .fgSample ∨ i = .fgWrite → exec i s = .next t →
    t = { s with
      refreshFlag := t.refreshFlag, fgLatch := t.fgLatch, fgPhase := t.fgPhase, disp := t.disp,
      digit := t.digit }

/-- 20_memory.md R59: of what the handlers write, the foreground's sample depends on FINISHED alone. The
inference is the spec's own. -/
def Obligations.SampleReadsOnlyFinishedOfTheHandlers : Prop :=
  ∀ s u t : State, s.inBus = u.inBus → s.digit = u.digit → s.finished = u.finished →
    s.fgPhase = u.fgPhase → s.refreshFlag = u.refreshFlag → exec .fgSample s = .next t →
    ∃ v, exec .fgSample u = .next v ∧ v.fgLatch = t.fgLatch ∧ v.fgPhase = t.fgPhase ∧
      v.refreshFlag = t.refreshFlag

/-- 70_reset_and_hazards.md R221: whatever handler runs between the foreground's two steps, the byte
written is the one computed before it. The inference is the spec's own. -/
def Obligations.DisplayByteMayBeStale : Prop :=
  ∀ (h : Instr) (s a b : State), h ∈ handlers → exec .fgSample s = .next a → exec h a = .next b →
    ∃ t, exec .fgWrite b = .next t ∧ t.disp = displayByte params s.inBus s.digit s.finished
end

