-- ==== Sys2Proof/Laws/Decode.lean ====
section
/-!
SUPPORT. What the two fields of an encoded word are, and all that decoding a word can answer.
-/
namespace Sys2Proof

/-- OP of an encoded word (30_encoding.md R80). -/
@[simp] theorem opField_encode (i : Instr) : opField (encode i) = opcodeOf i :=
  BitVec.extractLsb'_append_eq_left

/-- IMM of an encoded word (30_encoding.md R80). -/
@[simp] theorem immField_encode (i : Instr) : immField (encode i) = immediateOf i :=
  BitVec.extractLsb'_append_eq_right

/-- All a decoding that succeeds can be: `ev.in` with IMM, or an event without an operand whose IMM is 0
(30_encoding.md R82). -/
theorem decode_ok_cases {w : EventWord} {i : Instr} (h : decode w = .ok i) :
    (opField w = 0x5 ∧ i = .evIn (immField w)) ∨
    (opField w ≠ 0x5 ∧ immField w = 0 ∧ plainEvent (opField w) = some i) := by
  unfold decode at h
  split at h
  · next h5 => cases h; exact .inl ⟨h5, rfl⟩
  · next h5 =>
    split at h
    · next h0 =>
      cases hp : plainEvent (opField w) with
      | none => simp [hp] at h
      | some j => simp only [hp, Except.ok.injEq] at h; exact .inr ⟨h5, h0, by rw [h]⟩
    · cases h

end Sys2Proof
end

