-- ==== Sys2Proof/Laws/State.lean ====
section
/-!
SUPPORT. Each named update of State, field by field, so that no proof unfolds a record update.
-/
namespace Sys2Proof.Machine

variable (s : State)

/-! ### setPending (10_state.md R27) -/

@[simp] theorem setPending_elapsed (src : Source) (b : Bool) :
    (s.setPending src b).elapsed = s.elapsed := by cases src <;> rfl
@[simp] theorem setPending_finished (src : Source) (b : Bool) :
    (s.setPending src b).finished = s.finished := by cases src <;> rfl
@[simp] theorem setPending_tickEn (src : Source) (b : Bool) :
    (s.setPending src b).tickEn = s.tickEn := by cases src <;> rfl
@[simp] theorem setPending_startEn (src : Source) (b : Bool) :
    (s.setPending src b).startEn = s.startEn := by cases src <;> rfl
@[simp] theorem setPending_start_tickPend (b : Bool) : (s.setPending .start b).tickPend = s.tickPend := rfl
@[simp] theorem setPending_reset_tickPend (b : Bool) : (s.setPending .reset b).tickPend = s.tickPend := rfl
@[simp] theorem setPending_tick_tickPend (b : Bool) : (s.setPending .tick b).tickPend = b := rfl
@[simp] theorem setPending_start_startPend (b : Bool) : (s.setPending .start b).startPend = b := rfl
@[simp] theorem setPending_reset_startPend (b : Bool) : (s.setPending .reset b).startPend = s.startPend := rfl
@[simp] theorem setPending_tick_startPend (b : Bool) : (s.setPending .tick b).startPend = s.startPend := rfl
@[simp] theorem setPending_start_resetPend (b : Bool) : (s.setPending .start b).resetPend = s.resetPend := rfl
@[simp] theorem setPending_reset_resetPend (b : Bool) : (s.setPending .reset b).resetPend = b := rfl
@[simp] theorem setPending_tick_resetPend (b : Bool) : (s.setPending .tick b).resetPend = s.resetPend := rfl
@[simp] theorem setPending_refreshFlag (src : Source) (b : Bool) :
    (s.setPending src b).refreshFlag = s.refreshFlag := by cases src <;> rfl
@[simp] theorem setPending_digit (src : Source) (b : Bool) :
    (s.setPending src b).digit = s.digit := by cases src <;> rfl
@[simp] theorem setPending_fgPhase (src : Source) (b : Bool) :
    (s.setPending src b).fgPhase = s.fgPhase := by cases src <;> rfl
@[simp] theorem setPending_fgLatch (src : Source) (b : Bool) :
    (s.setPending src b).fgLatch = s.fgLatch := by cases src <;> rfl
@[simp] theorem setPending_led (src : Source) (b : Bool) :
    (s.setPending src b).led = s.led := by cases src <;> rfl
@[simp] theorem setPending_duty (src : Source) (b : Bool) :
    (s.setPending src b).duty = s.duty := by cases src <;> rfl
@[simp] theorem setPending_disp (src : Source) (b : Bool) :
    (s.setPending src b).disp = s.disp := by cases src <;> rfl
@[simp] theorem setPending_inBus (src : Source) (b : Bool) :
    (s.setPending src b).inBus = s.inBus := by cases src <;> rfl
@[simp] theorem setPending_script (src : Source) (b : Bool) :
    (s.setPending src b).script = s.script := by cases src <;> rfl

/-! ### setRefresh (10_state.md R28) -/

@[simp] theorem setRefresh_elapsed (b : Bool) : (s.setRefresh b).elapsed = s.elapsed := rfl
@[simp] theorem setRefresh_finished (b : Bool) : (s.setRefresh b).finished = s.finished := rfl
@[simp] theorem setRefresh_tickEn (b : Bool) : (s.setRefresh b).tickEn = s.tickEn := rfl
@[simp] theorem setRefresh_startEn (b : Bool) : (s.setRefresh b).startEn = s.startEn := rfl
@[simp] theorem setRefresh_tickPend (b : Bool) : (s.setRefresh b).tickPend = s.tickPend := rfl
@[simp] theorem setRefresh_startPend (b : Bool) : (s.setRefresh b).startPend = s.startPend := rfl
@[simp] theorem setRefresh_resetPend (b : Bool) : (s.setRefresh b).resetPend = s.resetPend := rfl
@[simp] theorem setRefresh_refreshFlag (b : Bool) : (s.setRefresh b).refreshFlag = b := rfl
@[simp] theorem setRefresh_digit (b : Bool) : (s.setRefresh b).digit = s.digit := rfl
@[simp] theorem setRefresh_fgPhase (b : Bool) : (s.setRefresh b).fgPhase = s.fgPhase := rfl
@[simp] theorem setRefresh_fgLatch (b : Bool) : (s.setRefresh b).fgLatch = s.fgLatch := rfl
@[simp] theorem setRefresh_led (b : Bool) : (s.setRefresh b).led = s.led := rfl
@[simp] theorem setRefresh_duty (b : Bool) : (s.setRefresh b).duty = s.duty := rfl
@[simp] theorem setRefresh_disp (b : Bool) : (s.setRefresh b).disp = s.disp := rfl
@[simp] theorem setRefresh_inBus (b : Bool) : (s.setRefresh b).inBus = s.inBus := rfl
@[simp] theorem setRefresh_script (b : Bool) : (s.setRefresh b).script = s.script := rfl

/-! ### setIn (41_events.md R144) -/

@[simp] theorem setIn_elapsed (v : Byte) : (s.setIn v).elapsed = s.elapsed := rfl
@[simp] theorem setIn_finished (v : Byte) : (s.setIn v).finished = s.finished := rfl
@[simp] theorem setIn_tickEn (v : Byte) : (s.setIn v).tickEn = s.tickEn := rfl
@[simp] theorem setIn_startEn (v : Byte) : (s.setIn v).startEn = s.startEn := rfl
@[simp] theorem setIn_tickPend (v : Byte) : (s.setIn v).tickPend = s.tickPend := rfl
@[simp] theorem setIn_startPend (v : Byte) : (s.setIn v).startPend = s.startPend := rfl
@[simp] theorem setIn_resetPend (v : Byte) : (s.setIn v).resetPend = s.resetPend := rfl
@[simp] theorem setIn_refreshFlag (v : Byte) : (s.setIn v).refreshFlag = s.refreshFlag := rfl
@[simp] theorem setIn_digit (v : Byte) : (s.setIn v).digit = s.digit := rfl
@[simp] theorem setIn_fgPhase (v : Byte) : (s.setIn v).fgPhase = s.fgPhase := rfl
@[simp] theorem setIn_fgLatch (v : Byte) : (s.setIn v).fgLatch = s.fgLatch := rfl
@[simp] theorem setIn_led (v : Byte) : (s.setIn v).led = s.led := rfl
@[simp] theorem setIn_duty (v : Byte) : (s.setIn v).duty = s.duty := rfl
@[simp] theorem setIn_disp (v : Byte) : (s.setIn v).disp = s.disp := rfl
@[simp] theorem setIn_inBus (v : Byte) : (s.setIn v).inBus = v := rfl
@[simp] theorem setIn_script (v : Byte) : (s.setIn v).script = s.script := rfl

/-! ### doReset (41_events.md R150) -/

@[simp] theorem doReset_elapsed (c : Params) : (doReset c s).elapsed = 0 := rfl
@[simp] theorem doReset_finished (c : Params) : (doReset c s).finished = s.finished := rfl
@[simp] theorem doReset_tickEn (c : Params) : (doReset c s).tickEn = false := rfl
@[simp] theorem doReset_startEn (c : Params) : (doReset c s).startEn = true := rfl
@[simp] theorem doReset_tickPend (c : Params) : (doReset c s).tickPend = false := rfl
@[simp] theorem doReset_startPend (c : Params) : (doReset c s).startPend = false := rfl
@[simp] theorem doReset_resetPend (c : Params) : (doReset c s).resetPend = s.resetPend := rfl
@[simp] theorem doReset_refreshFlag (c : Params) : (doReset c s).refreshFlag = s.refreshFlag := rfl
@[simp] theorem doReset_digit (c : Params) : (doReset c s).digit = s.digit := rfl
@[simp] theorem doReset_fgPhase (c : Params) : (doReset c s).fgPhase = s.fgPhase := rfl
@[simp] theorem doReset_fgLatch (c : Params) : (doReset c s).fgLatch = s.fgLatch := rfl
@[simp] theorem doReset_led (c : Params) : (doReset c s).led = allOff := rfl
@[simp] theorem doReset_duty (c : Params) : (doReset c s).duty = c.dutyOff := rfl
@[simp] theorem doReset_disp (c : Params) : (doReset c s).disp = s.disp := rfl
@[simp] theorem doReset_inBus (c : Params) : (doReset c s).inBus = s.inBus := rfl
@[simp] theorem doReset_script (c : Params) : (doReset c s).script = s.script := rfl

/-! ### beginCycle (41_events.md R145) -/

@[simp] theorem beginCycle_elapsed : (beginCycle s).elapsed = 0 := rfl
@[simp] theorem beginCycle_finished : (beginCycle s).finished = false := rfl
@[simp] theorem beginCycle_tickEn : (beginCycle s).tickEn = true := rfl
@[simp] theorem beginCycle_startEn : (beginCycle s).startEn = false := rfl
@[simp] theorem beginCycle_tickPend : (beginCycle s).tickPend = s.tickPend := rfl
@[simp] theorem beginCycle_startPend : (beginCycle s).startPend = s.startPend := rfl
@[simp] theorem beginCycle_resetPend : (beginCycle s).resetPend = s.resetPend := rfl
@[simp] theorem beginCycle_refreshFlag : (beginCycle s).refreshFlag = s.refreshFlag := rfl
@[simp] theorem beginCycle_digit : (beginCycle s).digit = s.digit := rfl
@[simp] theorem beginCycle_fgPhase : (beginCycle s).fgPhase = s.fgPhase := rfl
@[simp] theorem beginCycle_fgLatch : (beginCycle s).fgLatch = s.fgLatch := rfl
@[simp] theorem beginCycle_led : (beginCycle s).led = ledAt 0 := rfl
@[simp] theorem beginCycle_duty : (beginCycle s).duty = dutyWash := rfl
@[simp] theorem beginCycle_disp : (beginCycle s).disp = s.disp := rfl
@[simp] theorem beginCycle_inBus : (beginCycle s).inBus = s.inBus := rfl
@[simp] theorem beginCycle_script : (beginCycle s).script = s.script := rfl

/-! ### advanceCycle (41_events.md R146) -/

@[simp] theorem advanceCycle_elapsed (p : Phase) (e : Byte) :
    (advanceCycle p e s).elapsed = e := rfl
@[simp] theorem advanceCycle_finished (p : Phase) (e : Byte) :
    (advanceCycle p e s).finished = s.finished := rfl
@[simp] theorem advanceCycle_tickEn (p : Phase) (e : Byte) :
    (advanceCycle p e s).tickEn = s.tickEn := rfl
@[simp] theorem advanceCycle_startEn (p : Phase) (e : Byte) :
    (advanceCycle p e s).startEn = s.startEn := rfl
@[simp] theorem advanceCycle_tickPend (p : Phase) (e : Byte) :
    (advanceCycle p e s).tickPend = s.tickPend := rfl
@[simp] theorem advanceCycle_startPend (p : Phase) (e : Byte) :
    (advanceCycle p e s).startPend = s.startPend := rfl
@[simp] theorem advanceCycle_resetPend (p : Phase) (e : Byte) :
    (advanceCycle p e s).resetPend = s.resetPend := rfl
@[simp] theorem advanceCycle_refreshFlag (p : Phase) (e : Byte) :
    (advanceCycle p e s).refreshFlag = s.refreshFlag := rfl
@[simp] theorem advanceCycle_digit (p : Phase) (e : Byte) :
    (advanceCycle p e s).digit = s.digit := rfl
@[simp] theorem advanceCycle_fgPhase (p : Phase) (e : Byte) :
    (advanceCycle p e s).fgPhase = s.fgPhase := rfl
@[simp] theorem advanceCycle_fgLatch (p : Phase) (e : Byte) :
    (advanceCycle p e s).fgLatch = s.fgLatch := rfl
@[simp] theorem advanceCycle_led (p : Phase) (e : Byte) : (advanceCycle p e s).led = gen p e := rfl
@[simp] theorem advanceCycle_duty (p : Phase) (e : Byte) :
    (advanceCycle p e s).duty = phaseDuty p := rfl
@[simp] theorem advanceCycle_disp (p : Phase) (e : Byte) : (advanceCycle p e s).disp = s.disp := rfl
@[simp] theorem advanceCycle_inBus (p : Phase) (e : Byte) :
    (advanceCycle p e s).inBus = s.inBus := rfl
@[simp] theorem advanceCycle_script (p : Phase) (e : Byte) :
    (advanceCycle p e s).script = s.script := rfl

/-! ### completeCycle (41_events.md R148) -/

@[simp] theorem completeCycle_elapsed (c : Params) : (completeCycle c s).elapsed = 0 := rfl
@[simp] theorem completeCycle_finished (c : Params) : (completeCycle c s).finished = true := rfl
@[simp] theorem completeCycle_tickEn (c : Params) : (completeCycle c s).tickEn = false := rfl
@[simp] theorem completeCycle_startEn (c : Params) : (completeCycle c s).startEn = true := rfl
@[simp] theorem completeCycle_tickPend (c : Params) : (completeCycle c s).tickPend = false := rfl
@[simp] theorem completeCycle_startPend (c : Params) : (completeCycle c s).startPend = false := rfl
@[simp] theorem completeCycle_resetPend (c : Params) :
    (completeCycle c s).resetPend = s.resetPend := rfl
@[simp] theorem completeCycle_refreshFlag (c : Params) :
    (completeCycle c s).refreshFlag = s.refreshFlag := rfl
@[simp] theorem completeCycle_digit (c : Params) : (completeCycle c s).digit = s.digit := rfl
@[simp] theorem completeCycle_fgPhase (c : Params) : (completeCycle c s).fgPhase = s.fgPhase := rfl
@[simp] theorem completeCycle_fgLatch (c : Params) : (completeCycle c s).fgLatch = s.fgLatch := rfl
@[simp] theorem completeCycle_led (c : Params) : (completeCycle c s).led = allOff := rfl
@[simp] theorem completeCycle_duty (c : Params) : (completeCycle c s).duty = c.dutyOff := rfl
@[simp] theorem completeCycle_disp (c : Params) : (completeCycle c s).disp = s.disp := rfl
@[simp] theorem completeCycle_inBus (c : Params) : (completeCycle c s).inBus = s.inBus := rfl
@[simp] theorem completeCycle_script (c : Params) : (completeCycle c s).script = s.script := rfl

/-! ### clearFinishedIf (41_events.md R149) -/

@[simp] theorem clearFinishedIf_elapsed (b : Bool) :
    (clearFinishedIf b s).elapsed = s.elapsed := rfl
@[simp] theorem clearFinishedIf_finished (b : Bool) :
    (clearFinishedIf b s).finished = if b then false else s.finished := rfl
@[simp] theorem clearFinishedIf_tickEn (b : Bool) : (clearFinishedIf b s).tickEn = s.tickEn := rfl
@[simp] theorem clearFinishedIf_startEn (b : Bool) :
    (clearFinishedIf b s).startEn = s.startEn := rfl
@[simp] theorem clearFinishedIf_tickPend (b : Bool) :
    (clearFinishedIf b s).tickPend = s.tickPend := rfl
@[simp] theorem clearFinishedIf_startPend (b : Bool) :
    (clearFinishedIf b s).startPend = s.startPend := rfl
@[simp] theorem clearFinishedIf_resetPend (b : Bool) :
    (clearFinishedIf b s).resetPend = s.resetPend := rfl
@[simp] theorem clearFinishedIf_refreshFlag (b : Bool) :
    (clearFinishedIf b s).refreshFlag = s.refreshFlag := rfl
@[simp] theorem clearFinishedIf_digit (b : Bool) : (clearFinishedIf b s).digit = s.digit := rfl
@[simp] theorem clearFinishedIf_fgPhase (b : Bool) :
    (clearFinishedIf b s).fgPhase = s.fgPhase := rfl
@[simp] theorem clearFinishedIf_fgLatch (b : Bool) :
    (clearFinishedIf b s).fgLatch = s.fgLatch := rfl
@[simp] theorem clearFinishedIf_led (b : Bool) : (clearFinishedIf b s).led = s.led := rfl
@[simp] theorem clearFinishedIf_duty (b : Bool) : (clearFinishedIf b s).duty = s.duty := rfl
@[simp] theorem clearFinishedIf_disp (b : Bool) : (clearFinishedIf b s).disp = s.disp := rfl
@[simp] theorem clearFinishedIf_inBus (b : Bool) : (clearFinishedIf b s).inBus = s.inBus := rfl
@[simp] theorem clearFinishedIf_script (b : Bool) : (clearFinishedIf b s).script = s.script := rfl

/-! ### sampleDisplay (41_events.md R160) -/

@[simp] theorem sampleDisplay_elapsed (c : Params) : (sampleDisplay c s).elapsed = s.elapsed := rfl
@[simp] theorem sampleDisplay_finished (c : Params) :
    (sampleDisplay c s).finished = s.finished := rfl
@[simp] theorem sampleDisplay_tickEn (c : Params) : (sampleDisplay c s).tickEn = s.tickEn := rfl
@[simp] theorem sampleDisplay_startEn (c : Params) : (sampleDisplay c s).startEn = s.startEn := rfl
@[simp] theorem sampleDisplay_tickPend (c : Params) :
    (sampleDisplay c s).tickPend = s.tickPend := rfl
@[simp] theorem sampleDisplay_startPend (c : Params) :
    (sampleDisplay c s).startPend = s.startPend := rfl
@[simp] theorem sampleDisplay_resetPend (c : Params) :
    (sampleDisplay c s).resetPend = s.resetPend := rfl
@[simp] theorem sampleDisplay_refreshFlag (c : Params) :
    (sampleDisplay c s).refreshFlag = false := rfl
@[simp] theorem sampleDisplay_digit (c : Params) : (sampleDisplay c s).digit = s.digit := rfl
@[simp] theorem sampleDisplay_fgPhase (c : Params) : (sampleDisplay c s).fgPhase = .write := rfl
@[simp] theorem sampleDisplay_fgLatch (c : Params) :
    (sampleDisplay c s).fgLatch = displayByte c s.inBus s.digit s.finished := rfl
@[simp] theorem sampleDisplay_led (c : Params) : (sampleDisplay c s).led = s.led := rfl
@[simp] theorem sampleDisplay_duty (c : Params) : (sampleDisplay c s).duty = s.duty := rfl
@[simp] theorem sampleDisplay_disp (c : Params) : (sampleDisplay c s).disp = s.disp := rfl
@[simp] theorem sampleDisplay_inBus (c : Params) : (sampleDisplay c s).inBus = s.inBus := rfl
@[simp] theorem sampleDisplay_script (c : Params) : (sampleDisplay c s).script = s.script := rfl

/-! ### writeDisplay (41_events.md R161) -/

@[simp] theorem writeDisplay_elapsed : (writeDisplay s).elapsed = s.elapsed := rfl
@[simp] theorem writeDisplay_finished : (writeDisplay s).finished = s.finished := rfl
@[simp] theorem writeDisplay_tickEn : (writeDisplay s).tickEn = s.tickEn := rfl
@[simp] theorem writeDisplay_startEn : (writeDisplay s).startEn = s.startEn := rfl
@[simp] theorem writeDisplay_tickPend : (writeDisplay s).tickPend = s.tickPend := rfl
@[simp] theorem writeDisplay_startPend : (writeDisplay s).startPend = s.startPend := rfl
@[simp] theorem writeDisplay_resetPend : (writeDisplay s).resetPend = s.resetPend := rfl
@[simp] theorem writeDisplay_refreshFlag : (writeDisplay s).refreshFlag = s.refreshFlag := rfl
@[simp] theorem writeDisplay_digit : (writeDisplay s).digit = s.digit ^^^ 1 := rfl
@[simp] theorem writeDisplay_fgPhase : (writeDisplay s).fgPhase = .wait := rfl
@[simp] theorem writeDisplay_fgLatch : (writeDisplay s).fgLatch = s.fgLatch := rfl
@[simp] theorem writeDisplay_led : (writeDisplay s).led = s.led := rfl
@[simp] theorem writeDisplay_duty : (writeDisplay s).duty = s.duty := rfl
@[simp] theorem writeDisplay_disp : (writeDisplay s).disp = s.fgLatch := rfl
@[simp] theorem writeDisplay_inBus : (writeDisplay s).inBus = s.inBus := rfl
@[simp] theorem writeDisplay_script : (writeDisplay s).script = s.script := rfl

/-! ### placeWord (30_encoding.md R84) -/

@[simp] theorem placeWord_elapsed (w : EventWord) : (placeWord w s).elapsed = s.elapsed := rfl
@[simp] theorem placeWord_finished (w : EventWord) : (placeWord w s).finished = s.finished := rfl
@[simp] theorem placeWord_tickEn (w : EventWord) : (placeWord w s).tickEn = s.tickEn := rfl
@[simp] theorem placeWord_startEn (w : EventWord) : (placeWord w s).startEn = s.startEn := rfl
@[simp] theorem placeWord_tickPend (w : EventWord) : (placeWord w s).tickPend = s.tickPend := rfl
@[simp] theorem placeWord_startPend (w : EventWord) : (placeWord w s).startPend = s.startPend := rfl
@[simp] theorem placeWord_resetPend (w : EventWord) : (placeWord w s).resetPend = s.resetPend := rfl
@[simp] theorem placeWord_refreshFlag (w : EventWord) :
    (placeWord w s).refreshFlag = s.refreshFlag := rfl
@[simp] theorem placeWord_digit (w : EventWord) : (placeWord w s).digit = s.digit := rfl
@[simp] theorem placeWord_fgPhase (w : EventWord) : (placeWord w s).fgPhase = s.fgPhase := rfl
@[simp] theorem placeWord_fgLatch (w : EventWord) : (placeWord w s).fgLatch = s.fgLatch := rfl
@[simp] theorem placeWord_led (w : EventWord) : (placeWord w s).led = s.led := rfl
@[simp] theorem placeWord_duty (w : EventWord) : (placeWord w s).duty = s.duty := rfl
@[simp] theorem placeWord_disp (w : EventWord) : (placeWord w s).disp = s.disp := rfl
@[simp] theorem placeWord_inBus (w : EventWord) : (placeWord w s).inBus = s.inBus := rfl
@[simp] theorem placeWord_script (w : EventWord) : (placeWord w s).script = w :: s.script := rfl

/-! ### Accessors and the handler's entry and return -/

@[simp] theorem resetEn_eq : s.resetEn = true := rfl
@[simp] theorem sampleIn_eq : s.sampleIn = s.inBus := rfl
@[simp] theorem enterHandler_eq (src : Source) : enterHandler src s = s.setPending src false := rfl
@[simp] theorem leaveHandler_eq : leaveHandler s = s := rfl
@[simp] theorem nextElapsed_eq : nextElapsed s = s.elapsed + 1 := rfl
@[simp] theorem pending_start : s.pending .start = s.startPend := rfl
@[simp] theorem pending_reset : s.pending .reset = s.resetPend := rfl
@[simp] theorem pending_tick : s.pending .tick = s.tickPend := rfl
@[simp] theorem sourceEnabled_start : s.sourceEnabled .start = s.startEn := rfl
@[simp] theorem sourceEnabled_reset : s.sourceEnabled .reset = true := rfl
@[simp] theorem sourceEnabled_tick : s.sourceEnabled .tick = s.tickEn := rfl

end Sys2Proof.Machine
end

