-- ==== Sys2Proof/Laws/Ops.lean ====
section
/-!
SUPPORT. For each shared operation and each guarded meaning, one lemma that says once everything it can
do; proofs cite these and do not unfold the operation.
-/
namespace Sys2Proof.Machine

/-! ### Guards and handlers -/

/-- A guarded step answers next exactly when its guard holds (00_scope.md R10). -/
theorem guarded_eq_next {g : Bool} {why : Fault} {t u : State} :
    guarded g why t = .next u ↔ g = true ∧ t = u := by
  cases g <;> simp [guarded]

/-- A guarded step is stuck exactly when its guard fails (00_scope.md R10). -/
theorem guarded_eq_fault {g : Bool} {why f : Fault} {t : State} :
    guarded g why t = .fault f ↔ g = false ∧ why = f := by
  cases g <;> simp [guarded]

@[simp] theorem guarded_true (why : Fault) (t : State) : guarded true why t = .next t := rfl

@[simp] theorem guarded_false (why : Fault) (t : State) : guarded false why t = .fault why := rfl

/-- Taking a handler: its source is pending and enabled, and its body runs on the state with its own
latch cleared (60_exceptions.md R185, R189). -/
theorem takeHandler_eq_next {src : Source} {why : Fault} {body : State → State} {s t : State} :
    takeHandler src why body s = .next t ↔
      s.pending src = true ∧ s.sourceEnabled src = true ∧ body (s.setPending src false) = t := by
  simp [takeHandler, guarded_eq_next, canTake, and_assoc]

/-! ### Classification and dispatch -/

/-- The three results of the classifier and when each holds (40_functions.md R100). -/
theorem classify_cases (c : Params) (bus : Byte) :
    (faultPattern c bus = true ∧ classify c bus = .invalid) ∨
    (faultPattern c bus = false ∧ extendedSelected c bus = true ∧
      classify c bus = .valid .extended) ∨
    (faultPattern c bus = false ∧ extendedSelected c bus = false ∧
      classify c bus = .valid .normal) := by
  unfold classify
  cases faultPattern c bus <;> cases extendedSelected c bus <;> simp

/-- A tick in a valid mode advances within a phase or completes (40_functions.md R110,
41_events.md R146). -/
theorem tickInMode_cases (c : Params) (m : CycleMode) (s : State) :
    (∃ p, phase m (s.elapsed + 1) = .active p ∧
      tickInMode c m s = advanceCycle p (s.elapsed + 1) s) ∨
    (phase m (s.elapsed + 1) = .complete ∧ tickInMode c m s = completeCycle c s) := by
  unfold tickInMode
  rw [nextElapsed_eq]
  cases phase m (s.elapsed + 1) <;> simp

/-- The body of `isr.tick`: frozen under Invalid, else the tick of the mode (41_events.md R146, R147). -/
theorem tickBody_cases (c : Params) (s : State) :
    (classify c s.inBus = .invalid ∧ tickBody c s = s) ∨
    (∃ m, classify c s.inBus = .valid m ∧ tickBody c s = tickInMode c m s) := by
  unfold tickBody
  cases h : classify c s.inBus <;> simp [h]

/-- The body of `isr.start`: nothing under Invalid, else a new cycle (41_events.md R145, R152). -/
theorem startBody_cases (c : Params) (s : State) :
    (classify c s.inBus = .invalid ∧ startBody c s = s) ∨
    (∃ m, classify c s.inBus = .valid m ∧ startBody c s = beginCycle s) := by
  unfold startBody
  cases h : classify c s.inBus <;> simp [h]

/-- The body of `isr.reset` under the machine's parameters: the reset semantics alone
(41_events.md R149). -/
theorem resetBody_params (s : State) : resetBody params s = doReset params s := rfl

/-- Every phase has a duty and a mask; only COMPLETE has none (40_functions.md R110). -/
theorem phase_cases (m : CycleMode) (e : Byte) :
    (e.toNat < 32 ∧ phase m e = .active .wash) ∨
    (32 ≤ e.toNat ∧ e.toNat < rinseEnd m ∧ phase m e = .active .rinse) ∨
    (rinseEnd m ≤ e.toNat ∧ e.toNat < spinEnd m ∧ phase m e = .active .spin) ∨
    (spinEnd m ≤ e.toNat ∧ phase m e = .complete) := by
  have hr : 32 ≤ rinseEnd m ∧ rinseEnd m ≤ spinEnd m := by cases m <;> decide
  by_cases h1 : e.toNat < 32
  · exact .inl ⟨h1, if_pos h1⟩
  by_cases h2 : e.toNat < rinseEnd m
  · exact .inr (.inl ⟨by omega, h2, (if_neg h1).trans (if_pos h2)⟩)
  by_cases h3 : e.toNat < spinEnd m
  · exact .inr (.inr (.inl ⟨by omega, h3, (if_neg h1).trans ((if_neg h2).trans (if_pos h3))⟩))
  · exact .inr (.inr (.inr
      ⟨by omega, (if_neg h1).trans ((if_neg h2).trans (if_neg h3))⟩))

/-! ### The display byte -/

/-- A rendered byte is the digit above one of two glyphs (40_functions.md R121). -/
theorem render_cases (c : Params) (idx : Fin 5) (d : Bit) (f : Bool) :
    (f = true ∧ render c idx d f = d ++ c.doneGlyph) ∨
    (f = false ∧ render c idx d f = d ++ c.glyph[idx]) := by
  cases f <;> simp [render]

/-! ### Fetch and step -/

/-- A fetch takes the first word off the script, or finds none. -/
theorem fetch_cases (s : State) :
    (s.script = [] ∧ fetch s = none) ∨
    (∃ w rest, s.script = w :: rest ∧ fetch s = some (w, { s with script := rest })) := by
  unfold fetch
  cases h : s.script with
  | nil => exact .inl ⟨rfl, rfl⟩
  | cons w rest => exact .inr ⟨w, rest, rfl, rfl⟩

/-- All a step that answers next can be: idling without a word, or `exec` of the decoded word on the
state with that word taken off. -/
theorem step_cases {s t : State} (h : step s = .next t) :
    (s.script = [] ∧ t = s) ∨
    (∃ w rest i, s.script = w :: rest ∧ decode w = .ok i ∧
      exec i { s with script := rest } = .next t) := by
  rcases fetch_cases s with ⟨hs, hf⟩ | ⟨w, rest, hs, hf⟩
  · left
    simp only [step, hf, idle, Host.Outcome.next.injEq] at h
    exact ⟨hs, h.symm⟩
  · right
    cases hd : decode w with
    | ok i => exact ⟨w, rest, i, hs, hd, by simpa [step, hf, hd] using h⟩
    | error e => cases e; simp [step, hf, hd] at h

/-! ### The meanings -/

/-- All an instruction that answers next can do, guard included, one case each (41_events.md). -/
theorem exec_cases {i : Instr} {s t : State} (h : exec i s = .next t) :
    (i = .evStart ∧ t = s.setPending .start true) ∨
    (i = .evReset ∧ t = s.setPending .reset true) ∨
    (i = .evTick ∧ s.tickEn = true ∧ t = s.setPending .tick true) ∨
    (i = .evRefresh ∧ t = s.setRefresh true) ∨
    (∃ v, i = .evIn v ∧ t = s.setIn v) ∨
    (i = .isrStart ∧ s.startPend = true ∧ s.startEn = true ∧
      t = startBody params (s.setPending .start false)) ∨
    (i = .isrReset ∧ s.resetPend = true ∧ t = doReset params (s.setPending .reset false)) ∨
    (i = .isrTick ∧ s.tickPend = true ∧ s.tickEn = true ∧
      t = tickBody params (s.setPending .tick false)) ∨
    (i = .fgSample ∧ s.fgPhase = .wait ∧ s.refreshFlag = true ∧ t = sampleDisplay params s) ∨
    (i = .fgWrite ∧ s.fgPhase = .write ∧ t = writeDisplay s) := by
  cases i with
  | evStart => cases h; simp
  | evReset => cases h; simp
  | evTick => obtain ⟨hg, rfl⟩ := guarded_eq_next.1 h; simp [hg]
  | evRefresh => cases h; simp
  | evIn v => cases h; simp
  | isrStart => obtain ⟨hp, he, rfl⟩ := takeHandler_eq_next.1 h; simp_all
  | isrReset => obtain ⟨hp, he, rfl⟩ := takeHandler_eq_next.1 h; simp_all [resetBody_params]
  | isrTick => obtain ⟨hp, he, rfl⟩ := takeHandler_eq_next.1 h; simp_all
  | fgSample => obtain ⟨hg, rfl⟩ := guarded_eq_next.1 h; simp_all
  | fgWrite => obtain ⟨hg, rfl⟩ := guarded_eq_next.1 h; simp_all

end Sys2Proof.Machine
end

