-- ==== Sys2Proof/Laws/PerInstr.lean ====
section
/-!
SUPPORT. Per-instruction statements: each instruction's word is one the checks of WellFormed admit.
-/
namespace Sys2Proof.Laws.EncodesToAdmittedWord

/-- The word of an instruction has an allocated opcode, and IMM = 0 unless it is `ev.in`
(30_encoding.md R80, R81). -/
def Statement (i : Instr) : Prop :=
  opcodeAllocated (encode i) = true ∧ immediateAllowed (encode i) = true

theorem evStart : Statement .evStart := by unfold Statement; decide

theorem evReset : Statement .evReset := by unfold Statement; decide

theorem evTick : Statement .evTick := by unfold Statement; decide

theorem evRefresh : Statement .evRefresh := by unfold Statement; decide

theorem evIn (v : Byte) : Statement (.evIn v) := by
  have h : (encode (.evIn v)).extractLsb' 8 4 = 0x5 := BitVec.extractLsb'_append_eq_left
  constructor
  · rw [opcodeAllocated, h]; decide
  · rw [immediateAllowed, h]; rfl

theorem isrStart : Statement .isrStart := by unfold Statement; decide

theorem isrReset : Statement .isrReset := by unfold Statement; decide

theorem isrTick : Statement .isrTick := by unfold Statement; decide

theorem fgSample : Statement .fgSample := by unfold Statement; decide

theorem fgWrite : Statement .fgWrite := by unfold Statement; decide

end Sys2Proof.Laws.EncodesToAdmittedWord
end

