-- ==== Sys2Proof/Tests/Slice0.lean ====
section
/-!
SUPPORT. The model's own tests. Expected values are the spec's: the opcode map (30_encoding.md R81) and
the vectors of 95_test_vectors.md, named where used. The last part gives, for each statement with
hypotheses, a state and operands that meet them.
-/
namespace Sys2Proof.Tests
open Sys2Proof Sys2Proof.Machine

/-! ### WellFormed: an ill-formed term for each check (30_encoding.md R70, R83, R86) -/

theorem test_wf_admits_allocated_words :
    wordWellFormed 0x100 = true ∧ wordWellFormed 0x5FF = true := by decide

theorem test_wf_refuses_reserved_opcode : opcodeAllocated 0xB00 = false := by decide

theorem test_wf_refuses_nonzero_immediate : immediateAllowed 0x101 = false := by decide

theorem test_wf_admits_default_params : params.wellFormed = true := by decide

theorem test_wf_refuses_sel_inside_level :
    ({ params with levelLsb := 1, faultLsb := 4 } : Params).selOutsideLevel = false := by decide

theorem test_wf_refuses_sel_inside_fault :
    ({ params with faultLsb := 2 } : Params).selOutsideFault = false := by decide

theorem test_wf_refuses_active_duty_as_off :
    ({ params with dutyOff := 128 } : Params).offIsOutsideActive = false := by decide

theorem test_wf_refuses_ill_formed_pseudos :
    (Pseudo.tick 0).wellFormed = false ∧ (Pseudo.refresh 0).wellFormed = false ∧
    (Pseudo.inNormal 3).wellFormed = false ∧ (Pseudo.inExtended 3).wellFormed = false := by decide

/-! ### Decoding: each word written out from its encoding (30_encoding.md R81) -/

theorem test_decode_evStart : decode 0b000100000000 = .ok .evStart := by decide

theorem test_decode_evReset : decode 0b001000000000 = .ok .evReset := by decide

theorem test_decode_evTick : decode 0b001100000000 = .ok .evTick := by decide

theorem test_decode_evRefresh : decode 0b010000000000 = .ok .evRefresh := by decide

theorem test_decode_evIn : decode 0b010110100101 = .ok (.evIn 0b10100101) := by decide

theorem test_decode_isrStart : decode 0b100000000000 = .ok .isrStart := by decide

theorem test_decode_isrReset : decode 0b100100000000 = .ok .isrReset := by decide

theorem test_decode_isrTick : decode 0b101000000000 = .ok .isrTick := by decide

theorem test_decode_fgSample : decode 0b110000000000 = .ok .fgSample := by decide

theorem test_decode_fgWrite : decode 0b110100000000 = .ok .fgWrite := by decide

/-- The refused words of V-EV-24 and V-DEC. -/
theorem test_decode_refuses_reserved :
    let ws : List EventWord := [0x000, 0x1FF, 0x6A5, 0x700, 0xA01, 0xB00, 0xE00, 0xFFF]
    ws.map decode = ws.map fun w => .error (.reservedEncoding w) := by decide

theorem test_table_word_in_two_bytes :
    decodeTableWord 16 0x507 = some (.evIn 7) ∧ decodeTableWord 16 0x1100 = none := by decide

/-! ### Script text (30_encoding.md R85, R86) -/

/-- The line `ev.in 0x04 ; x`, after the example of 30_encoding.md R85. -/
theorem test_read_commented_line :
    readLine ['e', 'v', '.', 'i', 'n', ' ', '0', 'x', '0', '4', ' ', ';', ' ', 'x'] =
      some [.evIn 4] := by decide

/-- `tick 2` is two pairs of events (30_encoding.md R86). -/
theorem test_read_tick_two :
    readLine ['t', 'i', 'c', 'k', ' ', '2'] = some [.evTick, .isrTick, .evTick, .isrTick] := by decide

/-- `ev.tick 1`: no other mnemonic takes an operand (30_encoding.md R85). -/
theorem test_read_refuses_operand :
    readLine ['e', 'v', '.', 't', 'i', 'c', 'k', ' ', '1'] = none := by decide

/-! ### One step each (95_test_vectors.md V-EV) -/

/-- The state after a step that answers next. -/
def after (i : Instr) (s : State) : Option State :=
  match exec i s with
  | .next t => some t
  | .fault _ => none
  | .refused _ => none

/-- P0: power-on with IN = 0x04. -/
def p0 : State := { State.reset with inBus := 0x04 }

/-- A(e): Extended and active with ELAPSED = e; LED and DUTY as the phase leaves them. -/
def activeAt (e : Byte) : State :=
  { p0 with
    elapsed := e, tickEn := true, startEn := false
    duty := if e < 32 then 230 else if e < 96 then 128 else 26
    led := if e < 32 then wash e else if e < 96 then rinse e else spin e }

/-- A(e) with a pending tick. -/
def tickingAt (e : Byte) : State := { activeAt e with tickPend := true }

/-- The views and controller elements of a state. -/
def controls (s : State) : Byte × Byte × Byte × LedMask × Byte :=
  (s.ctrlView, s.pendView, s.elapsed, s.led, s.duty)

/-- V-EV-1. -/
theorem test_evStart_latches : after .evStart p0 = some { p0 with startPend := true } := by decide

/-- V-EV-2. -/
theorem test_evReset_latches : (after .evReset p0).map State.pendView = some 0x04 := by decide

/-- V-EV-3. -/
theorem test_evTick_stuck_when_disabled : after .evTick p0 = none := by decide

/-- V-EV-4. -/
theorem test_evTick_latches : (after .evTick (activeAt 0)).map State.pendView = some 0x01 := by decide

/-- V-EV-5. -/
theorem test_evRefresh_sets_flag : (after .evRefresh p0).map State.pendView = some 0x08 := by decide

/-- V-EV-6. -/
theorem test_evIn_sets_bus : after (.evIn 0x07) p0 = some { p0 with inBus := 0x07 } := by decide

/-- V-EV-7. -/
theorem test_isrStart_begins_cycle :
    (after .isrStart { p0 with startPend := true }).map controls =
      some (0x05, 0x00, 0, 0b0001, 230) := by decide

/-- V-EV-8. -/
theorem test_isrStart_ignored_under_fault :
    after .isrStart { p0 with inBus := 0x03, startPend := true } =
      some { p0 with inBus := 0x03 } := by decide

/-- V-EV-9. -/
theorem test_isrReset_ends_cycle :
    (after .isrReset { activeAt 40 with resetPend := true }).map controls =
      some (0x06, 0x00, 0, 0b0000, 255) := by decide

/-- V-EV-26: RESET_CLEARS_FINISHED = true. -/
theorem test_isrReset_clears_finished_under_parameter :
    isrResetWith { params with resetClearsFinished := true }
      { p0 with finished := true, resetPend := true } = .next p0 := by rfl

/-- V-EV-12 and V-PH at 32. -/
theorem test_isrTick_enters_rinse :
    (after .isrTick (tickingAt 31)).map controls = some (0x05, 0x00, 32, 0b1000, 128) := by decide

/-- V-EV-13. -/
theorem test_isrTick_completes :
    (after .isrTick (tickingAt 127)).map controls = some (0x0E, 0x00, 0, 0b0000, 255) := by decide

/-- V-EV-20: digit 0 with level 0 shows GLYPH[0]. -/
theorem test_fgSample_latches_glyph :
    after .fgSample { p0 with refreshFlag := true } =
      some { p0 with fgPhase := .write, fgLatch := 0#1 ++ Config.glyphTable[0] } := by rfl

/-- V-EV-23. -/
theorem test_fgSample_stuck_without_refresh : after .fgSample p0 = none := by decide

/-- V-EV-21, and the example of 41_events.md R161. -/
theorem test_fgWrite_writes_and_toggles :
    after .fgWrite { p0 with fgPhase := .write, fgLatch := 0x85, digit := 1 } =
      some { p0 with disp := 0x85, fgLatch := 0x85, digit := 0 } := by decide

/-- V-EV-22. -/
theorem test_fgWrite_stuck_in_wait : after .fgWrite p0 = none := by decide

/-! ### The functions at the spec's corner values -/

/-- V-GEN at 0, 9, 12, 17, 24, 31 and 200. -/
theorem test_generators :
    [0, 9, 12, 17, 24, 31, 200].map (fun e => (wash e, rinse e, spin e)) =
      [(0x1, 0x8, 0x1), (0x1, 0x8, 0x8), (0x4, 0x2, 0x2), (0xF, 0xF, 0x0), (0xF, 0x0, 0xF),
        (0xF, 0x0, 0x0), (0x1, 0x8, 0x8)] := by decide

/-- V-CLS at 0x02, 0x07, 0xF8 and 0xFC. -/
theorem test_classifier :
    [0x02, 0x07, 0xF8, 0xFC].map (fun b => (classify params b, valueIndex params b 0)) =
      [(.valid .normal, 2), (.invalid, 3), (.valid .normal, 0), (.valid .extended, 0)] := by decide

/-- A layout of 90_conflicts.md C8 with a fault field of its own at bits 4:3. -/
theorem test_separate_fault_field :
    let c : Params := { params with faultLsb := 3 }
    c.wellFormed = true ∧ classify c 0x03 = .valid .normal ∧ classify c 0x18 = .invalid := by decide

/-- The power-on views of 70_reset_and_hazards.md R210. -/
theorem test_reset_views : State.reset.ctrlView = 0x06 ∧ State.reset.pendView = 0x00 := by decide

/-- A placed word is the next step's, and a reserved one is refused (30_encoding.md R83). -/
theorem test_step_runs_placed_word :
    step (State.reset.withFetchWord 16 0x100) = .next { State.reset with startPend := true } ∧
    step (State.reset.withFetchWord 16 0xB00) = .refused (.reservedEncoding 0xB00) := ⟨rfl, rfl⟩

/-! ### Witnesses: concrete states and operands for each statement's hypotheses -/

theorem witness_DecodeIsTheTableOfEvents :
    (0x5FF#12).extractLsb' 8 4 = 0x5 ∧
    (∀ op ∈ ([0x1, 0x2, 0x3, 0x4, 0x8, 0x9, 0xA, 0xC, 0xD] : List Opcode),
      (op ++ 0#8).extractLsb' 8 4 = op ∧ (op ++ 0#8).extractLsb' 0 8 = 0) ∧
    ((0x0FF#12).extractLsb' 8 4 ≠ 0x5 ∧
      (0x0FF#12).extractLsb' 8 4 ∉ ([0x1, 0x2, 0x3, 0x4, 0x8, 0x9, 0xA, 0xC, 0xD] : List Opcode)) ∧
    ((0x101#12).extractLsb' 8 4 ≠ 0x5 ∧ (0x101#12).extractLsb' 0 8 ≠ 0) := by decide

theorem witness_ReservedWordsAreRefused :
    (0xFFF#12).extractLsb' 8 4 ∈ ([0x0, 0x6, 0x7, 0xB, 0xE, 0xF] : List Opcode) ∧
    ((0x101#12).extractLsb' 8 4 ≠ 0x5 ∧ (0x101#12).extractLsb' 0 8 ≠ 0) ∧
    (placeWord 0xFFF p0).script = 0xFFF :: p0.script ∧
    (placeWord 0x101 p0).script = 0x101 :: p0.script := by decide

theorem witness_DecodeInvertsEncode : decode 0x5A5 = .ok (.evIn 0xA5) := by decide

theorem witness_PowerOnState : p0 = State.powerOn params 0x04 0 0 := by decide

theorem witness_ResetTriggerIsAlwaysLive :
    ({ activeAt 40 with resetPend := true } : State).resetPend = true ∧
    exec .evStart p0 = .next { p0 with startPend := true } := ⟨rfl, rfl⟩

/-- Each element changes in some step: the controller's in a completion, the others in their events. -/
theorem witness_OnlyListedWritersChangeAnElement :
    (let s : State := { tickingAt 127 with startPend := true, led := 1 }
     ∃ t, exec .isrTick s = .next t ∧ t.elapsed ≠ s.elapsed ∧ t.finished ≠ s.finished ∧
       t.tickEn ≠ s.tickEn ∧ t.startEn ≠ s.startEn ∧ t.tickPend ≠ s.tickPend ∧
       t.startPend ≠ s.startPend ∧ t.led ≠ s.led ∧ t.duty ≠ s.duty) ∧
    (∃ t, exec .evReset p0 = .next t ∧ t.resetPend ≠ p0.resetPend) ∧
    (∃ t, exec .evRefresh p0 = .next t ∧ t.refreshFlag ≠ p0.refreshFlag) ∧
    (let s : State := { p0 with refreshFlag := true, fgLatch := 0x80 }
     ∃ t, exec .fgSample s = .next t ∧ t.fgPhase ≠ s.fgPhase ∧ t.fgLatch ≠ s.fgLatch) ∧
    (let s : State := { p0 with fgPhase := .write, fgLatch := 0x85 }
     ∃ t, exec .fgWrite s = .next t ∧ t.digit ≠ s.digit ∧ t.disp ≠ s.disp) ∧
    (∃ t, exec (.evIn 7) p0 = .next t ∧ t.inBus ≠ p0.inBus) := by
  refine ⟨⟨_, rfl, by decide⟩, ⟨_, rfl, by decide⟩, ⟨_, rfl, by decide⟩, ⟨_, rfl, by decide, ?_⟩,
    ⟨_, rfl, by decide⟩, ⟨_, rfl, by decide⟩⟩
  intro h
  have hd : (0#1 ++ Config.glyphTable[0] : Byte).extractLsb' 7 1 = (0x80#8).extractLsb' 7 1 :=
    congrArg (BitVec.extractLsb' 7 1) h
  rw [BitVec.extractLsb'_append_eq_left (a := 0#1)] at hd
  exact absurd hd (by decide)

/-- P0 meets the invariant. -/
theorem p0_inv : Inv p0 :=
  ⟨rfl, fun _ => ⟨rfl, rfl, rfl, rfl⟩, fun h => absurd h (by decide), by decide,
    fun h => absurd h (by decide)⟩

/-- An active state in wash meets the invariant. -/
theorem active31_inv : Inv (activeAt 31) :=
  ⟨rfl, fun h => absurd h (by decide), fun _ => ⟨rfl, .wash, by decide, by decide⟩, by decide,
    fun h => absurd h (by decide)⟩

/-- A ticking state at the last count before Extended completion meets the invariant. -/
theorem ticking127_inv : Inv (tickingAt 127) :=
  ⟨rfl, fun h => absurd h (by decide), fun _ => ⟨rfl, .spin, by decide, by decide⟩, by decide,
    fun h => absurd h (by decide)⟩

/-- A ticking state at the count before the last meets the invariant. -/
theorem ticking126_inv : Inv (tickingAt 126) :=
  ⟨rfl, fun h => absurd h (by decide), fun _ => ⟨rfl, .spin, by decide, by decide⟩, by decide,
    fun h => absurd h (by decide)⟩

theorem witness_StepKeepsTheInvariant :
    Inv (tickingAt 127) ∧ Inv (placeWord 0xA00 (tickingAt 127)) ∧
      ∃ t, step (placeWord 0xA00 (tickingAt 127)) = .next t :=
  ⟨ticking127_inv, ⟨ticking127_inv.1, ticking127_inv.2, ticking127_inv.3, ticking127_inv.4,
    ticking127_inv.5⟩, _, rfl⟩

/-- A reachable idle state and a reachable active one. -/
theorem witness_ReachableStatesAreConsistent :
    (Reachable p0 ∧ p0.tickEn = false) ∧ ∃ t, Reachable t ∧ t.tickEn = true :=
  have h0 : Reachable p0 := Reachable.start 0x04 0 0
  ⟨⟨h0, rfl⟩, _, .next .isrStart _ _ (.next .evStart _ _ h0 rfl) rfl, rfl⟩

theorem witness_ElapsedNeverFallsWhileActive :
    (Inv (activeAt 31) ∧ (activeAt 31).tickEn = true ∧
      ∃ t, exec .evTick (activeAt 31) = .next t ∧ t.tickEn = true) ∧
    (Inv (tickingAt 126) ∧ classify params (tickingAt 126).inBus ≠ .invalid ∧
      ∃ t, exec .isrTick (tickingAt 126) = .next t ∧ t.tickEn = true) ∧
    (Inv { tickingAt 127 with inBus := 3 } ∧ classify params 3 = .invalid ∧
      ∃ t, exec .isrTick { tickingAt 127 with inBus := 3 } = .next t ∧ t.tickEn = true) :=
  ⟨⟨active31_inv, rfl, _, rfl, rfl⟩, ⟨ticking126_inv, by decide, _, rfl, rfl⟩,
    ⟨ticking127_inv.1, ticking127_inv.2, ticking127_inv.3, ticking127_inv.4, ticking127_inv.5⟩,
    by decide, _, rfl, rfl⟩

theorem witness_FinishedOnlyByTheCompletionTick :
    ∃ t, exec .isrTick (tickingAt 127) = .next t ∧ (tickingAt 127).finished = false ∧
      t.finished = true := ⟨_, rfl, rfl, rfl⟩

theorem witness_ResetButtonIsNotPowerOn :
    ({ p0 with finished := true, resetPend := true } : State).resetPend = true := by decide

theorem witness_ClassifierByInputBits :
    (0x0C#8).extractLsb' 0 3 = (0xFC#8).extractLsb' 0 3 := by decide

/-- Each step-index range of R104 to R106 at its boundary values. -/
theorem witness_patterns :
    [0, 7, 8, 15, 16, 23, 24, 31].map (fun e : Byte => e.toNat / 2 % 16) =
      [0, 3, 4, 7, 8, 11, 12, 15] ∧
    (16#8).toNat % 2 = 0 ∧ (17#8).toNat % 2 = 1 := by decide

theorem witness_PatternsRepeatEvery32Ticks :
    (5#8).toNat % 32 = (37#8).toNat % 32 ∧ phase .normal 31 = .active .wash ∧
    phase .extended 95 = .active .rinse ∧ phase .normal 64 = .active .spin := by decide

theorem witness_ModeChangeMovesTheThresholds :
    (95 ≤ (95#8).toNat ∧ (127#8).toNat ≤ 127) ∧ (63 ≤ (63#8).toNat ∧ (94#8).toNat ≤ 94) := by decide

theorem witness_GlyphIndexFromRawBits :
    (0x04#8).getLsbD params.selBit.val = true ∧ (0x03#8).getLsbD params.selBit.val = false ∧
    faultPattern params 0x03 = true := by decide

theorem witness_StepExistsExactlyUnderItsGuard :
    stepExists .isrTick (tickingAt 0) = true ∧ stepExists .isrTick p0 = false := by decide

theorem witness_StepRunsTheDecodedEvent :
    (placeWord 0x100 p0).script = 0x100 :: [] ∧ decode 0x100 = .ok .evStart ∧ p0.script = [] := by
  decide

theorem witness_PlacedWordIsTheNextEvent : decodeTableWord 16 0xD00 = some .fgWrite := by decide

theorem witness_latches_already_set :
    ({ p0 with startPend := true } : State).startPend = true ∧
    ({ p0 with resetPend := true } : State).resetPend = true ∧
    ({ p0 with refreshFlag := true } : State).refreshFlag = true := by decide

theorem witness_TickNeedsItsSourceEnabled :
    (tickingAt 5).tickEn = true ∧ (tickingAt 5).tickPend = true ∧ p0.tickEn = false := by decide

theorem witness_StartHandler :
    (let s : State := { p0 with startPend := true }
     s.startEn = true ∧ s.startPend = true ∧ classify params s.inBus ≠ .invalid) ∧
    (let s : State := { p0 with startPend := true, inBus := 7 }
     s.startEn = true ∧ s.startPend = true ∧ classify params s.inBus = .invalid) ∧
    (activeAt 3).startEn = false ∧ p0.startPend = false := by decide

theorem witness_InvalidStartChangesOnlyItsLatch :
    let s : State := { p0 with startPend := true, inBus := 0xFF }
    s.startEn = true ∧ s.startPend = true ∧ s.inBus.extractLsb' 0 2 = 0b11 := by decide

/-- Advancing (first and last counts of a phase), completing in each mode, frozen, and not taken. -/
theorem witness_TickHandler :
    (tickingAt 31).tickEn = true ∧ (tickingAt 31).tickPend = true ∧
    classify params (tickingAt 31).inBus = .valid .extended ∧
    phase .extended (30 + 1) = .active .wash ∧ phase .extended (31 + 1) = .active .rinse ∧
    phase .extended (126 + 1) = .active .spin ∧ phase .extended (127 + 1) = .complete ∧
    phase .normal (95 + 1) = .complete ∧ classify params 0 = .valid .normal ∧
    classify params 3 = .invalid ∧ p0.tickEn = false ∧ (activeAt 3).tickPend = false := by decide

theorem witness_ActivePhaseIsTheLastDispatched :
    (let s : State := { p0 with startPend := true }
     s.startEn = true ∧ s.startPend = true ∧ classify params s.inBus ≠ .invalid) ∧
    (tickingAt 31).tickEn = true ∧ (tickingAt 31).tickPend = true ∧
    classify params (tickingAt 31).inBus = .valid .extended ∧
    phase .extended ((tickingAt 31).elapsed + 1) = .active .rinse := by decide

theorem witness_TickFreezesUnderFault :
    let s : State := { tickingAt 40 with inBus := 3 }
    s.tickEn = true ∧ s.tickPend = true ∧ classify params s.inBus = .invalid ∧
    classify params 4 = .valid .extended ∧ phase .extended (s.elapsed + 1) = .active .rinse := by
  decide

/-- Extended at 127 and 126, Normal at 95 and 94, and the fault pattern. -/
theorem witness_CompletionTick :
    (([127, 126, 95, 94] : List Byte).all fun e =>
      (tickingAt e).tickEn && (tickingAt e).tickPend && decide ((tickingAt e).elapsed.toNat ≤ 127)) ∧
    classify params 4 = .valid .extended ∧ (tickingAt 127).elapsed.toNat = 127 ∧
    (tickingAt 126).elapsed.toNat < 127 ∧ classify params 0 = .valid .normal ∧
    95 ≤ (tickingAt 95).elapsed.toNat ∧ (tickingAt 94).elapsed.toNat < 95 ∧
    classify params 3 = .invalid := by decide

theorem witness_ResetHandler :
    ({ activeAt 40 with resetPend := true } : State).resetPend = true ∧ p0.resetPend = false := by
  decide

theorem witness_ResetIsIdempotent :
    ∃ t, exec .isrReset { activeAt 40 with resetPend := true } = .next t := ⟨_, rfl⟩

theorem witness_ResetWhileFinishedStaysFinished :
    let s : State := { p0 with finished := true }
    s.cycleState = .finished ∧ ∃ t, runEvents [.evReset, .isrReset] s = .next t :=
  ⟨rfl, _, rfl⟩

theorem witness_StartEdgeWhileActiveIsLost :
    (Inv (tickingAt 127) ∧ (tickingAt 127).tickEn = true) ∧
    ∃ t, exec .isrTick (tickingAt 127) = .next t ∧ t.tickEn = false :=
  ⟨⟨ticking127_inv, rfl⟩, _, rfl, rfl⟩

/-- The race with a tick that advances, and with one that completes. -/
theorem witness_ResetAndTickRace :
    (let s : State := { tickingAt 5 with resetPend := true }
     s.tickEn = true ∧ s.tickPend = true ∧ s.resetPend = true) ∧
    (let s : State := { tickingAt 127 with resetPend := true }
     s.tickEn = true ∧ s.tickPend = true ∧ s.resetPend = true) := by decide

/-- Both clauses at their boundary counts, in each mode. -/
theorem witness_SteadyTicksCountToCompletion :
    (Inv (activeAt 31) ∧ (activeAt 31).tickEn = true ∧
      classify params (activeAt 31).inBus = .valid .extended ∧
      (activeAt 31).elapsed.toNat + 96 < spinEnd .extended ∧
      (activeAt 31).elapsed.toNat + 97 = spinEnd .extended) ∧
    (let s : State := { activeAt 31 with inBus := 0 }
     Inv s ∧ s.tickEn = true ∧ classify params s.inBus = .valid .normal ∧
      s.elapsed.toNat + 64 < spinEnd .normal ∧ s.elapsed.toNat + 65 = spinEnd .normal) :=
  ⟨⟨active31_inv, by decide⟩,
    ⟨active31_inv.1, active31_inv.2, active31_inv.3, active31_inv.4, active31_inv.5⟩, by decide⟩

theorem witness_OnlyPhaseOutputsAreWritten :
    ledAndDutyWrites [.evTick, .isrTick] (activeAt 31) = [(0b1000, 128)] := by decide

theorem witness_SampleStep :
    ({ p0 with refreshFlag := true } : State).fgPhase = .wait ∧
    ({ p0 with refreshFlag := true } : State).refreshFlag = true ∧ p0.refreshFlag = false ∧
    ({ p0 with fgPhase := .write } : State).fgPhase = .write := by decide

theorem witness_WriteStep :
    ∃ u t, p0.fgPhase = .wait ∧ exec .fgSample { p0 with refreshFlag := true } = .next u ∧
      u.fgPhase = .write ∧ exec .fgWrite u = .next t := ⟨_, _, rfl, rfl, rfl, rfl⟩

theorem witness_DisplayDigitsAlternate :
    latchMatchesDigit { p0 with fgPhase := .write, fgLatch := 0x85, digit := 1 } ∧
    displayWrites [.fgWrite] { p0 with fgPhase := .write, fgLatch := 0x85, digit := 1 } = [0x85] :=
  ⟨fun _ => by decide, by decide⟩

theorem witness_ForegroundFrame :
    (∃ t, exec .fgSample { p0 with refreshFlag := true } = .next t) ∧
    ∃ t, exec .fgWrite { p0 with fgPhase := .write } = .next t := ⟨⟨_, rfl⟩, _, rfl⟩

theorem witness_SampleReadsOnlyFinishedOfTheHandlers :
    let s : State := { p0 with refreshFlag := true }
    let u : State := { activeAt 100 with refreshFlag := true }
    s.inBus = u.inBus ∧ s.digit = u.digit ∧ s.finished = u.finished ∧ s.fgPhase = u.fgPhase ∧
      s.refreshFlag = u.refreshFlag ∧ ∃ t, exec .fgSample s = .next t :=
  ⟨rfl, rfl, rfl, rfl, rfl, _, rfl⟩

theorem witness_DisplayByteMayBeStale :
    ∃ a b, Instr.isrTick ∈ handlers ∧
      exec .fgSample { tickingAt 127 with refreshFlag := true } = .next a ∧
      exec .isrTick a = .next b := ⟨_, _, by decide, rfl, rfl⟩

end Sys2Proof.Tests
end

