-- ==== Sys2Proof/Tests/FairRun.lean ====
section
/-!
SUPPORT. A fair infinite run that meets the hypotheses of `Obligations.FairActiveCycleFinishes`: a
Normal cycle one tick short of completion takes that tick, and the display then refreshes for ever.
-/
namespace Sys2Proof.Tests
open Sys2Proof Sys2Proof.Machine

/-- Active in Normal mode with ELAPSED = 95 and the last tick pending; DISP and FG_LATCH hold the byte of
the last refresh of digit 1. -/
def lastTick : State :=
  { p0 with
    inBus := 0, elapsed := 95, tickEn := true, startEn := false, tickPend := true, duty := 26
    led := spin 95, disp := displayByte params 0 1 true, fgLatch := displayByte params 0 1 true }

/-- The finished state after that tick. -/
def finishedWait : State :=
  { State.reset with
    finished := true, disp := displayByte params 0 1 true, fgLatch := displayByte params 0 1 true }

/-- The finished state with the other digit shown. -/
def finishedOther : State :=
  { finishedWait with
    disp := displayByte params 0 0 true, fgLatch := displayByte params 0 0 true, digit := 1 }

/-- The six states of two refreshes. -/
def refreshState : Nat → State
  | 0 => finishedWait
  | 1 => { finishedWait with refreshFlag := true }
  | 2 => { finishedWait with fgPhase := .write, fgLatch := displayByte params 0 0 true }
  | 3 => finishedOther
  | 4 => { finishedOther with refreshFlag := true }
  | _ => { finishedOther with fgPhase := .write, fgLatch := displayByte params 0 1 true }

/-- The labels of those states' steps. -/
def refreshLabel : Nat → Instr
  | 0 => .evRefresh
  | 1 => .fgSample
  | 2 => .fgWrite
  | 3 => .evRefresh
  | 4 => .fgSample
  | _ => .fgWrite

/-- The states of the run. -/
def fairState : Nat → State
  | 0 => lastTick
  | n + 1 => refreshState (n % 6)

/-- The labels of the run. -/
def fairLabel : Nat → Instr
  | 0 => .isrTick
  | n + 1 => refreshLabel (n % 6)

theorem fair_steps (n : Nat) : exec (fairLabel n) (fairState n) = .next (fairState (n + 1)) := by
  cases n with
  | zero => rfl
  | succ n =>
    have hlt : n % 6 < 6 := Nat.mod_lt _ (by decide)
    have hs : (n + 1) % 6 = (n % 6 + 1) % 6 := by omega
    simp only [fairLabel, fairState, hs]
    generalize n % 6 = r at hlt
    interval_cases r <;> rfl

/-- The run. -/
def fairRun : InfiniteRun := ⟨fairLabel, fairState, fair_steps⟩

/-- After the first step no handler exists, the tick source is off and the bus keeps its value. -/
theorem refreshState_rests (r : Nat) :
    (∀ i ∈ handlers, stepExists i (refreshState r) = false) ∧ (refreshState r).tickEn = false ∧
      (refreshState r).inBus = 0 := by
  have h (s : State) (h1 : s.startPend = false) (h2 : s.resetPend = false)
      (h3 : s.tickEn = false) : ∀ i ∈ handlers, stepExists i s = false := by
    simp [handlers, stepExists, h1, h2, h3]
  rcases r with _ | _ | _ | _ | _ | r <;> exact ⟨h _ rfl rfl rfl, rfl, rfl⟩

/-- Each of the refresh's labels comes round again. -/
theorem refresh_recurs (n r : Nat) (hr : r < 6) :
    ∃ m, n ≤ m ∧ fairRun.label m = refreshLabel r := by
  refine ⟨6 * n + r + 1, by omega, ?_⟩
  change refreshLabel ((6 * n + r) % 6) = refreshLabel r
  congr 1
  omega

theorem fairRun_fair : fairRun.Fair where
  handlersTaken i hi n h := by
    have hx := h (n + 1) (by omega)
    have hy : stepExists i (refreshState (n % 6)) = false := (refreshState_rests _).1 i hi
    exact absurd hx (by rw [show fairRun.state (n + 1) = refreshState (n % 6) from rfl, hy]; decide)
  foregroundTaken i hi n _ := by
    rcases List.mem_pair.1 hi with rfl | rfl
    · exact refresh_recurs n 1 (by decide)
    · exact refresh_recurs n 2 (by decide)
  ticksOccur n h := by
    have hx := h (n + 1) (by omega)
    have hy : (refreshState (n % 6)).tickEn = false := (refreshState_rests _).2.1
    exact absurd hx (by rw [show fairRun.state (n + 1) = refreshState (n % 6) from rfl, hy]; decide)
  refreshesOccur n := refresh_recurs n 0 (by decide)

/-- The run meets every hypothesis of the statement. -/
theorem witness_FairActiveCycleFinishes :
    fairRun.Fair ∧ Inv (fairRun.state 0) ∧ (fairRun.state 0).tickEn = true ∧
    (fairRun.state 0).resetPend = false ∧
    (∀ n, classify params (fairRun.state n).inBus ≠ .invalid) ∧
    (∀ n, fairRun.label n ≠ .evReset) := by
  refine ⟨fairRun_fair, ⟨rfl, fun h => absurd h (by decide), fun _ => ⟨rfl, .spin, rfl, rfl⟩,
    by decide, fun h => absurd h (by decide)⟩, rfl, rfl, ?_, ?_⟩
  · intro n
    cases n with
    | zero => decide
    | succ n =>
      rw [show (fairRun.state (n + 1)).inBus = 0 from (refreshState_rests (n % 6)).2.2]
      decide
  · intro n
    cases n with
    | zero => decide
    | succ n =>
      change refreshLabel (n % 6) ≠ .evReset
      rcases n % 6 with _ | _ | _ | _ | _ | r <;> exact nofun

end Sys2Proof.Tests
end

section
/-!
PROOFS. The Reset edge, its handler, and runs of given events (10_state.md R26; 41_events.md R141, R149).
-/
namespace Sys2Proof.Machine

/-! ### Runs of given events -/

@[simp] theorem runEvents_nil (s : State) : runEvents [] s = .next s := rfl

/-- A run whose first event is taken goes on from the state that event answers (30_encoding.md R84). -/
theorem runEvents_cons_of_next {i : Instr} {s t : State} (h : exec i s = .next t)
    (is : List Instr) : runEvents (i :: is) s = runEvents is t := by
  simp only [runEvents, h]

/-! ### The Reset edge and its handler -/

/-- A Reset edge is latched in every state (41_events.md R141). -/
theorem exec_evReset (s : State) : exec .evReset s = .next (s.setPending .reset true) := rfl

/-- The Reset handler is taken under its pending latch alone, since its trigger is always enabled, and
runs the reset semantics (10_state.md R26, 41_events.md R149). -/
theorem exec_isrReset_eq_next {s t : State} :
    exec .isrReset s = .next t ↔
      s.resetPend = true ∧ doReset params (s.setPending .reset false) = t := by
  change takeHandler .reset .stuckResetNotTaken (resetBody params) s = .next t ↔ _
  simp [takeHandler_eq_next, resetBody_params]

/-- A pending Reset is taken in every state and leaves the tick source disabled (10_state.md R26,
41_events.md R150). -/
theorem exec_isrReset_of_resetPend {s : State} (h : s.resetPend = true) :
    ∃ t, exec .isrReset s = .next t ∧ t.tickEn = false :=
  ⟨_, exec_isrReset_eq_next.2 ⟨h, rfl⟩, doReset_tickEn ..⟩

/-- Settles O12: the trigger is an accessor that no step can write, and the handler's guard is then its
latch, which the edge sets in every state. -/
theorem resetTriggerIsAlwaysLive : Obligations.ResetTriggerIsAlwaysLive := by
  refine ⟨resetEn_eq, fun _ s t _ => ?_, fun s => exec_isrReset_of_resetPend, fun s => ?_⟩
  · rw [resetEn_eq s, resetEn_eq t]
  · obtain ⟨t, htaken, hoff⟩ :=
      exec_isrReset_of_resetPend (s := s.setPending .reset true) (setPending_reset_resetPend ..)
    refine ⟨t, ?_, hoff⟩
    rw [runEvents_cons_of_next (exec_evReset s), runEvents_cons_of_next htaken, runEvents_nil]

end Sys2Proof.Machine
end

section
/-!
PROOFS. The decoder and the checks on event words (30_encoding.md R80 to R83).
-/
namespace Sys2Proof

/-! ### Decoding by the two fields -/

/-- The allocated opcodes other than `ev.in`'s (30_encoding.md R82). -/
def plainOpcodes : List Opcode := [0x1, 0x2, 0x3, 0x4, 0x8, 0x9, 0xA, 0xC, 0xD]

/-- The table of events without operand is defined on `plainOpcodes` alone (30_encoding.md R81). -/
theorem plainEvent_eq_none_iff {op : Opcode} : plainEvent op = none ↔ op ∉ plainOpcodes := by
  revert op; decide

/-- The table of events without operand inverts the opcode map (30_encoding.md R81). -/
theorem fields_of_mem_plainEvent {op : Opcode} :
    ∀ i ∈ plainEvent op, opcodeOf i = op ∧ immediateOf i = 0 := by
  revert op; decide

/-- A word with an instruction's two fields decodes to that instruction (30_encoding.md R82). -/
theorem decode_of_fields {w : EventWord} {i : Instr} (hop : opField w = opcodeOf i)
    (himm : immField w = immediateOf i) : decode w = .ok i := by
  unfold decode
  rw [hop, himm]
  cases i <;> rfl

/-- An instruction's word decodes to it (30_encoding.md R80, R82). -/
@[simp] theorem decode_encode (i : Instr) : decode (encode i) = .ok i :=
  decode_of_fields (opField_encode i) (immField_encode i)

/-! ### Admitted and reserved words -/

/-- The words the well-formedness check admits (30_encoding.md R83). -/
theorem wordWellFormed_iff {w : EventWord} :
    wordWellFormed w = true ↔ opField w = 0x5 ∨ (opField w ∈ plainOpcodes ∧ immField w = 0) := by
  have hfields : ∀ op : Opcode, (allocatedOpcodes.contains op ∧ (op = 0x5 ∨ immField w = 0)) ↔
      (op = 0x5 ∨ (op ∈ plainOpcodes ∧ immField w = 0)) := by
    by_cases h0 : immField w = 0 <;> simp only [h0] <;> decide
  rw [← hfields, wordWellFormed, Bool.and_eq_true, immediateAllowed, Bool.or_eq_true, beq_iff_eq,
    beq_iff_eq]
  rfl

/-- A word the check admits names an instruction (30_encoding.md R82). -/
theorem exists_decode_of_wordWellFormed {w : EventWord} (h : wordWellFormed w = true) :
    ∃ i, decode w = .ok i := by
  rcases wordWellFormed_iff.1 h with h5 | ⟨hmem, h0⟩
  · exact ⟨.evIn (immField w), decode_of_fields h5 rfl⟩
  · cases hp : plainEvent (opField w) with
    | none => exact absurd hmem (plainEvent_eq_none_iff.1 hp)
    | some i =>
      obtain ⟨hop, himm⟩ := fields_of_mem_plainEvent i hp
      exact ⟨i, decode_of_fields hop.symm (h0.trans himm.symm)⟩

/-- A word the check does not admit is rejected as reserved, with the word itself as the reason
(30_encoding.md R82). -/
theorem decode_of_not_wordWellFormed {w : EventWord} (h : wordWellFormed w = false) :
    decode w = .error (.reservedEncoding w) := by
  have hno : ¬ (opField w = 0x5 ∨ (opField w ∈ plainOpcodes ∧ immField w = 0)) := by
    rw [← wordWellFormed_iff, h]; decide
  obtain ⟨h5, hplain⟩ := not_or.1 hno
  unfold decode
  rw [if_neg h5]
  split
  · next h0 => rw [plainEvent_eq_none_iff.2 fun hmem => hplain ⟨hmem, h0⟩]
  · rfl

/-- The decoder answers an instruction exactly on the words the check admits (30_encoding.md R83). -/
theorem isSome_decode (w : EventWord) : (decode w).toOption.isSome = wordWellFormed w := by
  cases h : wordWellFormed w with
  | false => rw [decode_of_not_wordWellFormed h]; rfl
  | true =>
    obtain ⟨i, hi⟩ := exists_decode_of_wordWellFormed h
    rw [hi]; rfl

/-- R82's last case: another opcode than `ev.in`'s, and either no event has it or IMM is not 0. -/
theorem not_wordWellFormed {w : EventWord} (h5 : opField w ≠ 0x5)
    (h : opField w ∉ plainOpcodes ∨ immField w ≠ 0) : wordWellFormed w = false := by
  rw [← Bool.not_eq_true, wordWellFormed_iff]
  rintro (h5' | ⟨hmem, h0⟩)
  · exact h5 h5'
  · exact h.elim (· hmem) (· h0)

/-- An opcode marked reserved is neither `ev.in`'s nor a plain event's (30_encoding.md R81). -/
theorem reserved_opcode_unallocated {op : Opcode}
    (h : op ∈ ([0x0, 0x6, 0x7, 0xB, 0xE, 0xF] : List Opcode)) : op ≠ 0x5 ∧ op ∉ plainOpcodes := by
  revert op; decide

/-- No instruction has a word the check does not admit (30_encoding.md R83). -/
theorem encode_ne_of_not_wordWellFormed {w : EventWord} (h : wordWellFormed w = false) (i : Instr) :
    encode i ≠ w := by
  rintro rfl
  have hd := decode_of_not_wordWellFormed h
  rw [decode_encode] at hd
  cases hd

/-! ### Counting the words, one block of 256 per opcode -/

/-- OP of the word at place `k` of block `n`. -/
theorem opField_block {n k : Nat} (hk : k < 256) :
    opField (BitVec.ofNat 12 (256 * n + k)) = BitVec.ofNat 4 n := by
  apply BitVec.eq_of_toNat_eq
  simp only [opField, BitVec.extractLsb'_toNat, BitVec.toNat_ofNat, Nat.shiftRight_eq_div_pow]
  omega

/-- IMM of the word at place `k` of a block is 0 at the first place alone. -/
theorem immField_block {n k : Nat} (hk : k < 256) :
    immField (BitVec.ofNat 12 (256 * n + k)) = 0 ↔ k = 0 := by
  rw [← BitVec.toNat_inj, immField, BitVec.extractLsb'_toNat, BitVec.toNat_ofNat,
    Nat.shiftRight_zero, show (0 : Byte).toNat = 0 from rfl]
  omega

/-- Whether the word at place `k` of block `n` is admitted. -/
theorem wordWellFormed_block {n k : Nat} (hk : k < 256) :
    wordWellFormed (BitVec.ofNat 12 (256 * n + k)) = true ↔
      BitVec.ofNat 4 n = 0x5 ∨ (BitVec.ofNat 4 n ∈ plainOpcodes ∧ k = 0) := by
  rw [wordWellFormed_iff, opField_block hk, immField_block hk]

/-- How many words with opcode `op` are admitted: every one for `ev.in`, one for each other event
(30_encoding.md R82). -/
def admittedImmediates (op : Opcode) : Nat :=
  if op = 0x5 then 256 else if op ∈ plainOpcodes then 1 else 0

/-- Block `n` holds as many admitted words as its opcode has immediates. -/
theorem countP_block (n : Nat) :
    (List.range 256).countP (fun k => wordWellFormed (BitVec.ofNat 12 (256 * n + k))) =
      admittedImmediates (BitVec.ofNat 4 n) := by
  unfold admittedImmediates
  split
  · next h5 =>
    refine (List.countP_eq_length.2 fun k hk => ?_).trans List.length_range
    exact (wordWellFormed_block (List.mem_range.1 hk)).2 (.inl h5)
  · next h5 =>
    have hiff : ∀ k < 256, wordWellFormed (BitVec.ofNat 12 (256 * n + k)) = true ↔
        BitVec.ofNat 4 n ∈ plainOpcodes ∧ k = 0 := fun k hk => by
      rw [wordWellFormed_block hk, or_iff_right h5]
    split
    · next hmem =>
      have hfirst : ∀ k ∈ List.range 256,
          wordWellFormed (BitVec.ofNat 12 (256 * n + k)) = true ↔ (k == 0) = true := fun k hk => by
        rw [hiff k (List.mem_range.1 hk), beq_iff_eq, and_iff_right hmem]
      rw [List.countP_congr hfirst]
      exact List.count_eq_one_of_mem List.nodup_range (List.mem_range.2 (by decide))
    · next hmem =>
      refine List.countP_eq_zero.2 fun k hk hw => hmem ?_
      exact ((hiff k (List.mem_range.1 hk)).1 hw).1

/-- The admitted words among the first `m` blocks, block by block. -/
theorem countP_blocks (m : Nat) :
    (List.range (256 * m)).countP (fun n => wordWellFormed (BitVec.ofNat 12 n)) =
      ((List.range m).map fun n => admittedImmediates (BitVec.ofNat 4 n)).sum := by
  induction m with
  | zero => rfl
  | succ m ih =>
    rw [Nat.mul_succ, List.range_add, List.countP_append, ih, List.countP_map,
      List.range_succ (n := m), List.map_append, List.sum_append, List.map_singleton,
      List.sum_singleton, ← countP_block m]
    rfl

/-- 265 of the 4096 words are admitted: 256 for `ev.in` and 9 others (30_encoding.md R82). -/
theorem length_filter_wordWellFormed :
    ((List.range 4096).filter fun n => wordWellFormed (BitVec.ofNat 12 n)).length = 265 := by
  rw [← List.countP_eq_length_filter, show 4096 = 256 * 16 from rfl, countP_blocks]
  decide

/-- A filter drops the elements it does not keep. Stated for any list: on the concrete one the
subtraction would have the kernel run the filter. -/
theorem length_filter_not {α : Type} (f : α → Bool) {l : List α} {total kept : Nat}
    (htotal : l.length = total) (hkept : (l.filter f).length = kept) :
    (l.filter fun a => !f a).length = total - kept := by
  have hsplit := l.length_eq_length_filter_add f
  omega

/-- The other 3831 words are reserved (30_encoding.md R82). -/
theorem length_filter_not_wordWellFormed :
    ((List.range 4096).filter fun n => !wordWellFormed (BitVec.ofNat 12 n)).length = 3831 :=
  length_filter_not (fun n => wordWellFormed (BitVec.ofNat 12 n)) List.length_range
    length_filter_wordWellFormed

end Sys2Proof
end

section
/-!
PROOFS. The fields of the input bus and the statements on encodings (30_encoding.md R71, R82, R83).
-/
namespace Sys2Proof.Machine

/-- A reserved word at the head of the script is refused by name (30_encoding.md R83). -/
theorem step_of_not_wordWellFormed {s : State} {w : EventWord} {rest : List EventWord}
    (hs : s.script = w :: rest) (h : wordWellFormed w = false) :
    step s = .refused (.reservedEncoding w) := by
  simp only [step, fetch, hs, decode_of_not_wordWellFormed h]

/-- Settles O2: both kinds of reserved word fail the well-formedness check, and a word that fails it is
neither encoded to nor decoded from, and is refused by `step`. -/
theorem reservedWordsAreRefused : Obligations.ReservedWordsAreRefused := by
  intro w hres
  have hw : wordWellFormed w = false := by
    rcases hres with hop | ⟨h5, h0⟩
    · obtain ⟨h5, hmem⟩ := reserved_opcode_unallocated hop
      exact not_wordWellFormed h5 (.inl hmem)
    · exact not_wordWellFormed h5 (.inr h0)
  refine ⟨fun i => ⟨encode_ne_of_not_wordWellFormed hw i, ?_⟩,
    fun s rest hs => step_of_not_wordWellFormed hs hw, hw⟩
  rw [decode_of_not_wordWellFormed hw]
  exact nofun

/-- Settles O1: the fields of an instruction determine its word's decoding, every other word is not
admitted, and the counts are those of the admitted words, block by block. -/
theorem decodeIsTheTableOfEvents : Obligations.DecodeIsTheTableOfEvents := by
  refine ⟨fun w => ⟨fun h5 => decode_of_fields h5 rfl, decode_of_fields (i := .evStart),
    decode_of_fields (i := .evReset), decode_of_fields (i := .evTick),
    decode_of_fields (i := .evRefresh), decode_of_fields (i := .isrStart),
    decode_of_fields (i := .isrReset), decode_of_fields (i := .isrTick),
    decode_of_fields (i := .fgSample), decode_of_fields (i := .fgWrite),
    fun h5 h => decode_of_not_wordWellFormed (not_wordWellFormed h5 h)⟩, ?_, ?_⟩
  · simp only [isSome_decode]
    exact length_filter_wordWellFormed
  · simp only [← Option.not_isSome, isSome_decode]
    exact length_filter_not_wordWellFormed

/-- Settles O5: a field of two bits is a quotient mod 4, and one bit a quotient mod 2. -/
theorem inputFieldExtractors : Obligations.InputFieldExtractors := by
  intro c bus
  refine ⟨?_, ?_, ?_⟩
  · rw [levelField, BitVec.extractLsb'_toNat, Nat.shiftRight_eq_div_pow]
  · rw [extendedSelected, BitVec.getLsbD, Nat.testBit_eq_decide_div_mod_eq, decide_eq_true_iff]
  · rw [faultPattern, beq_iff_eq, ← BitVec.toNat_inj, BitVec.extractLsb'_toNat,
      Nat.shiftRight_eq_div_pow]
    rfl

end Sys2Proof.Machine
end

section
/-!
PROOFS. The combinational functions: classifier, patterns, phases and display bytes (40_functions.md
sections 1 to 4).
-/
namespace Sys2Proof.Machine

/-! ### The classifier -/

/-- The fault pattern is both bits of the fault field (30_encoding.md R71). -/
theorem faultPattern_iff (c : Params) (bus : Byte) :
    faultPattern c bus = true ↔
      bus.getLsbD c.faultLsb.val = true ∧ bus.getLsbD (c.faultLsb.val + 1) = true := by
  rw [(inputFieldExtractors c bus).2.2]
  simp only [BitVec.getLsbD, Nat.testBit_eq_decide_div_mod_eq, decide_eq_true_iff, Nat.pow_succ,
    ← Nat.div_div_eq_div_mul]
  omega

/-- A sample is Invalid exactly under the fault pattern (40_functions.md R100). -/
theorem classify_eq_invalid_iff (c : Params) (bus : Byte) :
    classify c bus = .invalid ↔ faultPattern c bus = true := by
  rcases classify_cases c bus with ⟨hf, hc⟩ | ⟨hf, _, hc⟩ | ⟨hf, _, hc⟩ <;> simp [hf, hc]

/-- A sample is Extended exactly without the fault pattern and with the select bit set
(40_functions.md R100). -/
theorem classify_eq_extended_iff (c : Params) (bus : Byte) :
    classify c bus = .valid .extended ↔
      ¬ faultPattern c bus = true ∧ extendedSelected c bus = true := by
  rcases classify_cases c bus with ⟨hf, hc⟩ | ⟨hf, hs, hc⟩ | ⟨hf, hs, hc⟩ <;> simp [*]

/-- A sample is Normal exactly without the fault pattern and with the select bit clear
(40_functions.md R100). -/
theorem classify_eq_normal_iff (c : Params) (bus : Byte) :
    classify c bus = .valid .normal ↔
      ¬ faultPattern c bus = true ∧ extendedSelected c bus = false := by
  rcases classify_cases c bus with ⟨hf, hc⟩ | ⟨hf, hs, hc⟩ | ⟨hf, hs, hc⟩ <;> simp [*]

/-- The classifier reads no more of a sample than its fault pattern and its select bit. -/
theorem classify_congr {c : Params} {a b : Byte} (hf : faultPattern c a = faultPattern c b)
    (hs : extendedSelected c a = extendedSelected c b) : classify c a = classify c b := by
  rw [classify, classify, hf, hs]

/-- Settles O20: the three results are the cases of the two extractors, which under the default
layout read bits below bit 3 alone. -/
theorem classifierByInputBits : Obligations.ClassifierByInputBits := by
  refine ⟨fun c bus => ?_, fun a b hab => ?_⟩
  · rw [← faultPattern_iff]
    exact ⟨classify_eq_invalid_iff c bus, classify_eq_extended_iff c bus,
      classify_eq_normal_iff c bus⟩
  · have hbit : ∀ k < 3, a.getLsbD k = b.getLsbD k := fun k hk => by
      simpa [BitVec.getLsbD_extractLsb', hk] using congrArg (BitVec.getLsbD · k) hab
    refine classify_congr ?_ (hbit 2 (by decide))
    rw [Bool.eq_iff_iff, faultPattern_iff, faultPattern_iff, hbit params.faultLsb (by decide),
      hbit (params.faultLsb + 1) (by decide)]

/-! ### The patterns -/

/-- The mask with one LED lit, bit by bit (30_encoding.md R73). -/
theorem getLsbD_ledAt {p : Nat} (hp : p < 4) (q : Nat) :
    (ledAt q).getLsbD p = decide (p = q) := by
  rw [ledAt, ← BitVec.twoPow_eq, BitVec.getLsbD_twoPow, ← Bool.decide_and, decide_eq_decide]
  omega

/-- The mirrored chase lights the LED whose place and the chase position add up to 3
(40_functions.md R105). -/
theorem getLsbD_ledAt_mirrored {p q : Nat} (hp : p < 4) (hq : q < 4) :
    (ledAt (3 - q)).getLsbD p = decide (p + q = 3) := by
  rw [getLsbD_ledAt hp, decide_eq_decide]
  omega

/-- The chase has four positions (40_functions.md R103). -/
theorem chasePos_lt (e : Byte) : chasePos e < 4 := Nat.mod_lt _ (by decide)

/-- Settles O21: the first half of the window is the chase, the second all LEDs. -/
theorem washPattern : Obligations.WashPattern := by
  intro e
  refine ⟨fun hchase p hp => ?_, fun hfull => if_neg (Nat.not_lt.2 hfull)⟩
  have hwash : wash e = ledAt (chasePos e) := if_pos hchase
  rw [hwash, getLsbD_ledAt hp]
  rfl

/-- Settles O22: the first half of the window is the mirrored chase, then all LEDs, then none. -/
theorem rinsePattern : Obligations.RinsePattern := by
  intro e
  refine ⟨fun hchase p hp => ?_,
    fun hhalf hfull => (if_neg (Nat.not_lt.2 hhalf)).trans (if_pos hfull), fun hoff => ?_⟩
  · have hrinse : rinse e = ledAt (3 - chasePos e) := if_pos hchase
    rw [hrinse, getLsbD_ledAt_mirrored hp (chasePos_lt e)]
    rfl
  · have hhalf : ¬ visualStep e < 8 := Nat.not_lt.2 (le_trans (by decide) hoff)
    exact (if_neg hhalf).trans (if_neg (Nat.not_lt.2 hoff))

/-- The second half of the spin window is the blink (40_functions.md R106). -/
theorem spin_of_half {e : Byte} (hhalf : 8 ≤ e.toNat / 2 % 16) :
    spin e = if e.toNat % 2 = 0 then allOn else allOff := by
  have hquarter : ¬ visualStep e < 4 := Nat.not_lt.2 (le_trans (by decide) hhalf)
  exact (if_neg hquarter).trans (if_neg (Nat.not_lt.2 hhalf))

/-- Settles O23: a quarter of chase, a quarter of mirrored chase, and the blink by the parity of the
count. -/
theorem spinPattern : Obligations.SpinPattern := by
  intro e
  refine ⟨fun hchase p hp => ?_, fun hquarter hchase p hp => ?_, fun hhalf heven => ?_,
    fun hhalf hodd => ?_⟩
  · have hspin : spin e = ledAt (chasePos e) := if_pos hchase
    rw [hspin, getLsbD_ledAt hp]
    rfl
  · have hspin : spin e = ledAt (3 - chasePos e) :=
      (if_neg (Nat.not_lt.2 hquarter)).trans (if_pos hchase)
    rw [hspin, getLsbD_ledAt_mirrored hp (chasePos_lt e)]
    rfl
  · rw [spin_of_half hhalf, if_pos heven]
    rfl
  · rw [spin_of_half hhalf, if_neg (by omega)]
    rfl

/-! ### The phases -/

/-- The four intervals of the elapsed count in either valid mode (40_functions.md R110). -/
theorem phase_eq_iff (m : CycleMode) (e : Byte) :
    (phase m e = .active .wash ↔ e.toNat < 32) ∧
    (phase m e = .active .rinse ↔ 32 ≤ e.toNat ∧ e.toNat < rinseEnd m) ∧
    (phase m e = .active .spin ↔ rinseEnd m ≤ e.toNat ∧ e.toNat < spinEnd m) ∧
    (phase m e = .complete ↔ spinEnd m ≤ e.toNat) := by
  have hends : 32 < rinseEnd m ∧ rinseEnd m < spinEnd m := by cases m <;> decide
  rcases phase_cases m e with ⟨_, hp⟩ | ⟨_, _, hp⟩ | ⟨_, _, hp⟩ | ⟨_, hp⟩ <;>
    simp only [hp, TickTarget.active.injEq, reduceCtorEq, true_iff, false_iff] <;> omega

/-- Settles O25: the intervals of `phase_eq_iff` with each mode's two thresholds. -/
theorem phaseThresholds : Obligations.PhaseThresholds := by
  intro e
  obtain ⟨hwash, hrinse, hspin, hcomplete⟩ := phase_eq_iff .extended e
  exact ⟨hwash, hrinse, hspin, hcomplete, phase_eq_iff .normal e⟩

/-! ### The display byte -/

/-- Digit 0 shows the level field (40_functions.md R120). -/
theorem valueIndex_zero (c : Params) (bus : Byte) :
    (valueIndex c bus 0).val = (levelField c bus).toNat := rfl

/-- Digit 1 shows the label of the raw select bit (40_functions.md R120). -/
theorem valueIndex_one (c : Params) (bus : Byte) :
    valueIndex c bus 1 = if extendedSelected c bus then extendedLabel else normalLabel := rfl

/-- Under the default layout the level and fault fields are the same two bits
(30_encoding.md R70). -/
theorem levelField_of_faultPattern_params {bus : Byte} (h : faultPattern params bus = true) :
    levelField params bus = 3 := beq_iff_eq.1 h

/-- Settles O28: the two digits read the level field and the select bit, and under a fault of the
default layout the level field is the fault pattern. -/
theorem glyphIndexFromRawBits : Obligations.GlyphIndexFromRawBits := by
  refine ⟨fun c bus => ⟨?_, fun hsel => ?_, fun hsel => ?_⟩, fun bus hfault => ?_⟩
  · obtain ⟨hlevel, _, _⟩ := inputFieldExtractors c bus
    rw [valueIndex_zero, hlevel]
  · rw [valueIndex_one, extendedSelected, hsel]
    rfl
  · rw [valueIndex_one, extendedSelected, hsel]
    rfl
  · apply Fin.ext
    rw [valueIndex_zero, levelField_of_faultPattern_params hfault]
    rfl

/-- Settles O29: a rendered byte is the digit above `DONE_GLYPH` or above the indexed glyph. -/
theorem renderedByteFields : Obligations.RenderedByteFields := by
  intro c idx d
  have hdone : render c idx d true = d ++ c.doneGlyph := if_pos rfl
  have hvalue : render c idx d false = d ++ c.glyph[idx] := if_neg nofun
  rw [hdone, hvalue]
  exact ⟨BitVec.extractLsb'_append_eq_right, BitVec.extractLsb'_append_eq_right,
    BitVec.extractLsb'_append_eq_left, BitVec.extractLsb'_append_eq_left⟩

end Sys2Proof.Machine
end

section
/-!
PROOFS. The environment events (41_events.md R140 to R144).
-/
namespace Sys2Proof.Machine

/-! ### Latching twice -/

/-- A latch that already holds the value written stays as it is, so that a second edge collapses into the
first (10_state.md R27). -/
theorem setPending_of_pending_eq {src : Source} {b : Bool} {s : State} (h : s.pending src = b) :
    s.setPending src b = s := by
  subst h
  cases src <;> rfl

/-- A second refresh event collapses into the first (10_state.md R28). -/
theorem setRefresh_of_refreshFlag_eq {b : Bool} {s : State} (h : s.refreshFlag = b) :
    s.setRefresh b = s := by
  subst h
  rfl

/-! ### The meanings -/

/-- A Start edge is latched in every state (41_events.md R140). -/
theorem exec_evStart (s : State) : exec .evStart s = .next (s.setPending .start true) := rfl

/-- A tick is latched where its source is enabled (41_events.md R142). -/
theorem exec_evTick_of_tickEn {s : State} (h : s.tickEn = true) :
    exec .evTick s = .next (s.setPending .tick true) :=
  guarded_eq_next.2 ⟨h, rfl⟩

/-- A refresh event sets its flag in every state (41_events.md R143). -/
theorem exec_evRefresh (s : State) : exec .evRefresh s = .next (s.setRefresh true) := rfl

/-- The input bus takes the operand in every state (41_events.md R144). -/
theorem exec_evIn (v : Byte) (s : State) : exec (.evIn v) s = .next (s.setIn v) := rfl

/-- The word of `ev.in` is its opcode above the operand taken whole (30_encoding.md R80, R81). -/
theorem encode_evIn (v : Byte) : encode (.evIn v) = 0x500 ||| v.setWidth 12 :=
  BitVec.append_def ..

/-! ### The statements -/

/-- Settles O35: the edge is one write of the latch, idle where the latch is set, and the reset semantics
clear it. -/
theorem startEdgeIsLatched : Obligations.StartEdgeIsLatched :=
  ⟨decode_encode .evStart, exec_evStart,
    fun s h => by rw [exec_evStart, setPending_of_pending_eq (src := .start) h],
    fun c _ => doReset_startPend _ c⟩

/-- Settles O36: the edge is one write of the latch, idle where the latch is set. -/
theorem resetEdgeIsLatched : Obligations.ResetEdgeIsLatched :=
  ⟨decode_encode .evReset, exec_evReset,
    fun s h => by rw [exec_evReset, setPending_of_pending_eq (src := .reset) h]⟩

/-- Settles O38: the event is one write of the flag, idle where the flag is set. -/
theorem refreshSetsItsFlag : Obligations.RefreshSetsItsFlag :=
  ⟨decode_encode .evRefresh, exec_evRefresh,
    fun s h => by rw [exec_evRefresh, setRefresh_of_refreshFlag_eq h]⟩

/-- Settles O39: the word is `ev.in`'s encoding, and the event is one write of the bus. -/
theorem inputTakesAnyValue : Obligations.InputTakesAnyValue := by
  refine fun v => ⟨?_, exec_evIn v⟩
  rw [← encode_evIn, decode_encode]

end Sys2Proof.Machine
end

section
/-!
PROOFS. The Tick handler: frozen, advancing or completing (41_events.md R146 to R148).
-/
namespace Sys2Proof.Machine

/-! ### The handler's body, case by case -/

/-- In a valid mode the body is the tick of the mode (41_events.md R146). -/
theorem tickBody_of_valid {c : Params} {m : CycleMode} {s : State}
    (h : classify c s.inBus = .valid m) : tickBody c s = tickInMode c m s := by
  simp [tickBody, h]

/-- Under the fault pattern the body writes nothing (41_events.md R147). -/
theorem tickBody_of_invalid {c : Params} {s : State} (h : classify c s.inBus = .invalid) :
    tickBody c s = s := by
  simp [tickBody, h]

/-- A tick that dispatches to a phase counts and writes the phase's outputs (41_events.md R146). -/
theorem tickInMode_of_active {c : Params} {m : CycleMode} {p : Phase} {s : State}
    (h : phase m (s.elapsed + 1) = .active p) :
    tickInMode c m s = advanceCycle p (s.elapsed + 1) s := by
  rw [tickInMode, nextElapsed_eq, h]

/-- A tick that dispatches to COMPLETE ends the cycle (41_events.md R148). -/
theorem tickInMode_of_complete {c : Params} {m : CycleMode} {s : State}
    (h : phase m (s.elapsed + 1) = .complete) : tickInMode c m s = completeCycle c s := by
  rw [tickInMode, nextElapsed_eq, h]

/-! ### The handler's meaning -/

/-- The Tick handler is taken under its latch and its enable, and runs its body with the latch cleared
(41_events.md R146). -/
theorem exec_isrTick_eq_next {s t : State} :
    exec .isrTick s = .next t ↔
      s.tickPend = true ∧ s.tickEn = true ∧ tickBody params (s.setPending .tick false) = t :=
  takeHandler_eq_next

section
variable {s : State} (hen : s.tickEn = true) (hpend : s.tickPend = true)
include hen hpend

/-- Under the fault pattern the handler clears its latch and no more (41_events.md R147). -/
theorem exec_isrTick_of_invalid (hc : classify params s.inBus = .invalid) :
    exec .isrTick s = .next (s.setPending .tick false) :=
  exec_isrTick_eq_next.2 ⟨hpend, hen, tickBody_of_invalid hc⟩

/-- Below the end of the mode's spin the handler counts on within a phase (41_events.md R146). -/
theorem exec_isrTick_of_active {m : CycleMode} {p : Phase}
    (hc : classify params s.inBus = .valid m) (hp : phase m (s.elapsed + 1) = .active p) :
    exec .isrTick s = .next (advanceCycle p (s.elapsed + 1) (s.setPending .tick false)) :=
  exec_isrTick_eq_next.2 ⟨hpend, hen,
    (tickBody_of_valid (s := s.setPending .tick false) hc).trans (tickInMode_of_active hp)⟩

/-- At the end of the mode's spin the handler completes the cycle (41_events.md R148). -/
theorem exec_isrTick_of_complete {m : CycleMode}
    (hc : classify params s.inBus = .valid m) (hp : phase m (s.elapsed + 1) = .complete) :
    exec .isrTick s = .next (completeCycle params (s.setPending .tick false)) :=
  exec_isrTick_eq_next.2 ⟨hpend, hen,
    (tickBody_of_valid (s := s.setPending .tick false) hc).trans (tickInMode_of_complete hp)⟩

/-- A tick that completes in no mode leaves the cycle active and FINISHED as it was
(41_events.md R146, R147). -/
theorem exec_isrTick_of_not_complete
    (hno : ∀ m, classify params s.inBus = .valid m → phase m (s.elapsed + 1) ≠ .complete) :
    ∃ t, exec .isrTick s = .next t ∧ t.tickEn = true ∧ t.finished = s.finished := by
  cases hc : classify params s.inBus with
  | invalid => exact ⟨_, exec_isrTick_of_invalid hen hpend hc, hen, rfl⟩
  | valid m =>
    cases hp : phase m (s.elapsed + 1) with
    | active p => exact ⟨_, exec_isrTick_of_active hen hpend hc hp, hen, rfl⟩
    | complete => exact absurd hp (hno m hc)

end

/-- A tick event and its handler, in an active cycle below the end of the mode's spin: ELAPSED counts on
by one and no latch stays set (41_events.md R142, R146). -/
theorem runEvents_tick_of_active {s : State} {m : CycleMode} {p : Phase} (hen : s.tickEn = true)
    (hc : classify params s.inBus = .valid m) (hp : phase m (s.elapsed + 1) = .active p) :
    runEvents [.evTick, .isrTick] s =
      .next (advanceCycle p (s.elapsed + 1) (s.setPending .tick false)) := by
  have hcount := exec_isrTick_of_active (s := s.setPending .tick true) hen rfl hc hp
  rw [runEvents_cons_of_next (exec_evTick_of_tickEn hen), runEvents_cons_of_next hcount]
  rfl

/-! ### When a tick completes -/

/-- Up to ELAPSED = 127 the increment does not wrap, so a tick completes from one below the mode's
completion value on (10_state.md R22, 40_functions.md R110). -/
theorem phase_succ_eq_complete_iff (m : CycleMode) {e : Byte} (h : e.toNat ≤ 127) :
    phase m (e + 1) = .complete ↔ spinEnd m ≤ e.toNat + 1 := by
  obtain ⟨_, _, _, hcomplete⟩ := phase_eq_iff m (e + 1)
  have hsucc : (e + 1).toNat = e.toNat + 1 :=
    BitVec.toNat_add_of_lt (Nat.lt_of_le_of_lt (Nat.succ_le_succ h) (by decide))
  rw [hcomplete, hsucc]

/-- A completed cycle is Finished (10_state.md R41, 41_events.md R148). -/
theorem cycleState_completeCycle (c : Params) (s : State) :
    (completeCycle c s).cycleState = .finished := rfl

/-! ### The statements -/

/-- Settles O44: the frozen tick and the new sample leave ELAPSED and the tick enable as they were, so the
later tick counts on from there. -/
theorem tickFreezesUnderFault : Obligations.TickFreezesUnderFault := by
  refine ⟨fun s => exec_isrTick_of_invalid, fun s v m p hen hpend hfault hvalid hp => ?_⟩
  have hresume := runEvents_tick_of_active (s := (s.setPending .tick false).setIn v) hen hvalid hp
  rw [runEvents_cons_of_next (exec_isrTick_of_invalid hen hpend hfault),
    runEvents_cons_of_next (exec_evIn v _), hresume]
  exact ⟨_, rfl, rfl⟩

/-- Settles O45: with ELAPSED at most 127 each mode completes exactly from one below its completion
value on, 128 in Extended and 96 in Normal. -/
theorem completionTick : Obligations.CompletionTick := by
  intro s hen hpend hle
  constructor
  · intro hend
    obtain ⟨m, hc, hreached⟩ :
        ∃ m, classify params s.inBus = .valid m ∧ spinEnd m ≤ s.elapsed.toNat + 1 := by
      rcases hend with ⟨hc, h127⟩ | ⟨hc, h95⟩
      · exact ⟨.extended, hc, by rw [h127]; decide⟩
      · exact ⟨.normal, hc, Nat.succ_le_succ h95⟩
    have hp := (phase_succ_eq_complete_iff m hle).2 hreached
    exact ⟨_, exec_isrTick_of_complete hen hpend hc hp, cycleState_completeCycle .., rfl⟩
  · intro hshort
    refine exec_isrTick_of_not_complete hen hpend fun m hc => ?_
    rw [Ne, phase_succ_eq_complete_iff m hle, Nat.not_le]
    rcases hshort with ⟨hc', hlt⟩ | ⟨hc', hlt⟩ | hc' <;> cases hc.symm.trans hc'
    · exact Nat.succ_lt_succ hlt
    · exact Nat.succ_lt_succ hlt

end Sys2Proof.Machine
end

section
/-!
PROOFS. What the foreground's two steps leave unchanged (41_events.md R160, R161, R163).
-/
namespace Sys2Proof.Machine

/-- `fg.sample` is taken in WAIT with the refresh flag set, and latches the display byte
(41_events.md R160). -/
theorem exec_fgSample_eq_next {s t : State} :
    exec .fgSample s = .next t ↔
      s.fgPhase = .wait ∧ s.refreshFlag = true ∧ sampleDisplay params s = t := by
  change guarded (s.fgPhase == .wait && s.refreshFlag) .stuckSampleNotReady _ = .next t ↔ _
  simp [guarded_eq_next, and_assoc]

/-- `fg.write` is taken in WRITE, and writes the latched byte (41_events.md R161). -/
theorem exec_fgWrite_eq_next {s t : State} :
    exec .fgWrite s = .next t ↔ s.fgPhase = .write ∧ writeDisplay s = t := by
  change guarded (s.fgPhase == .write) .stuckWriteNotReady _ = .next t ↔ _
  simp [guarded_eq_next]

/-- Settles O57: each of the two steps is one record of writes, to elements of the foreground alone. -/
theorem foregroundFrame : Obligations.ForegroundFrame := by
  rintro i s t (rfl | rfl) h
  · obtain ⟨_, _, rfl⟩ := exec_fgSample_eq_next.1 h
    rfl
  · obtain ⟨_, rfl⟩ := exec_fgWrite_eq_next.1 h
    rfl

end Sys2Proof.Machine
end

section
/-!
PROOFS. The power-on state and its two views (70_reset_and_hazards.md R210, 10_state.md R35).
-/
namespace Sys2Proof.Machine

/-- The CTRL view reads no element that is open at power-on, nor DUTY, so every draw shows the view of the
model's reset. -/
@[simp] theorem ctrlView_powerOn (c : Params) (bus latch display : Byte) :
    (State.powerOn c bus latch display).ctrlView = 0x06 :=
  calc (State.powerOn c bus latch display).ctrlView
    _ = State.reset.ctrlView := rfl
    _ = 0x06 := by decide

/-- The PEND view reads the three pending latches and REFRESH_FLAG alone, and none is open at
power-on. -/
@[simp] theorem pendView_powerOn (c : Params) (bus latch display : Byte) :
    (State.powerOn c bus latch display).pendView = 0x00 :=
  calc (State.powerOn c bus latch display).pendView
    _ = State.reset.pendView := rfl
    _ = 0x00 := by decide

/-- Settles O9: the stored elements are the fields of the power-on record, RESET_EN is hardwired, and the
views do not depend on the draw. -/
theorem powerOnState : Obligations.PowerOnState := by
  rintro c bus latch display s rfl
  have hreset := resetEn_eq (State.powerOn c bus latch display)
  have hctrl := ctrlView_powerOn c bus latch display
  have hpend := pendView_powerOn c bus latch display
  exact ⟨rfl, rfl, rfl, rfl, hreset, rfl, rfl, rfl, rfl, rfl, rfl, rfl, rfl, rfl, rfl, rfl,
    hctrl, hpend⟩

end Sys2Proof.Machine
end

section
/-!
PROOFS. Decode and encode as inverses, and the step that runs a decoded word (30_encoding.md R80 to R84).
-/
namespace Sys2Proof

/-- The two fields make up the whole word (30_encoding.md R80). -/
theorem opField_append_immField (w : EventWord) : opField w ++ immField w = w :=
  calc opField w ++ immField w
    _ = w.extractLsb' 0 (4 + 8) := BitVec.extractLsb'_append_extractLsb'_eq_extractLsb' rfl
    _ = w := BitVec.extractLsb'_eq_self

/-- A word with an instruction's two fields is that instruction's word (30_encoding.md R80). -/
theorem encode_eq_of_fields {w : EventWord} {i : Instr} (hop : opcodeOf i = opField w)
    (himm : immediateOf i = immField w) : encode i = w := by
  rw [encode, hop, himm, opField_append_immField]

/-- A word that decodes to an instruction is that instruction's word (30_encoding.md R82). -/
theorem encode_of_decode {w : EventWord} {i : Instr} (h : decode w = .ok i) : encode i = w := by
  rcases decode_ok_cases h with ⟨h5, rfl⟩ | ⟨_, h0, hplain⟩
  · exact encode_eq_of_fields h5.symm rfl
  · obtain ⟨hop, himm⟩ := fields_of_mem_plainEvent i hplain
    exact encode_eq_of_fields hop (himm.trans h0.symm)

/-- The words the check admits are those that decode (30_encoding.md R83). -/
theorem wordWellFormed_iff_exists_decode {w : EventWord} :
    wordWellFormed w = true ↔ ∃ i, decode w = .ok i := by
  refine ⟨exists_decode_of_wordWellFormed, fun ⟨i, hi⟩ => ?_⟩
  rw [← isSome_decode, hi]
  rfl

/-- Settles O3: the fields of an instruction's word give the instruction back, and those of a word that
decodes make up the word. -/
theorem decodeInvertsEncode : Obligations.DecodeInvertsEncode :=
  ⟨decode_encode, fun _ _ => encode_of_decode, fun _ => wordWellFormed_iff_exists_decode⟩

/-- Settles O4: the admitted words are the encodings of their events, and the others fail the
well-formedness check. -/
theorem opcodeMapWords : Obligations.OpcodeMapWords :=
  ⟨decode_encode .evStart, decode_encode .evReset, decode_encode .evTick, decode_encode .evRefresh,
    decode_encode (.evIn 0x00), decode_encode (.evIn 0xFF), decode_encode (.evIn 0x07),
    decode_encode .isrStart, decode_encode .isrReset, decode_encode .isrTick,
    decode_encode .fgSample, decode_encode .fgWrite,
    decode_of_not_wordWellFormed (by decide), decode_of_not_wordWellFormed (by decide),
    decode_of_not_wordWellFormed (by decide), decode_of_not_wordWellFormed (by decide),
    decode_of_not_wordWellFormed (by decide)⟩

end Sys2Proof

namespace Sys2Proof.Machine

/-- A step runs the event its first word decodes to, on the state with that word taken off
(30_encoding.md R82, R84). -/
theorem step_of_decode {s : State} {w : EventWord} {rest : List EventWord} {i : Instr}
    (hs : s.script = w :: rest) (hd : decode w = .ok i) :
    step s = exec i { s with script := rest } := by
  simp only [step, fetch, hs, hd]

/-- Without a word left a step idles (41_events.md R164). -/
theorem step_of_script_nil {s : State} (hs : s.script = []) : step s = .next s := by
  simp only [step, fetch, hs, idle]

/-- A table number that names an instruction has 12 bits, and its word decodes to that instruction. -/
theorem decode_of_decodeTableWord {nbits w : Nat} {i : Instr} (h : decodeTableWord nbits w = some i) :
    decode (BitVec.ofNat 12 w) = .ok i := by
  by_cases hw : w < 4096
  · have hword : (decode (BitVec.ofNat 12 w)).toOption = some i := by
      simpa [decodeTableWord, tableWord, hw] using h
    cases hd : decode (BitVec.ofNat 12 w) with
    | error e => rw [hd] at hword; cases hword
    | ok j => rw [hd] at hword; cases hword; rfl
  · simp [decodeTableWord, tableWord, hw] at h

/-- Settles O32: the two outcomes of a fetch. -/
theorem stepRunsTheDecodedEvent : Obligations.StepRunsTheDecodedEvent :=
  ⟨fun _ _ _ _ => step_of_decode, fun _ => step_of_script_nil⟩

/-- Settles O33: the placed word is the script's first, and with it taken off the state is the old one. -/
theorem placedWordIsTheNextEvent : Obligations.PlacedWordIsTheNextEvent :=
  fun s _ _ _ h => step_of_decode (placeWord_script s _) (decode_of_decodeTableWord h)

end Sys2Proof.Machine
end

section
/-!
PROOFS. The machine's step relation: `exec` answers next exactly along its cases.
-/
namespace Sys2Proof.Machine

/-- The steps of the machine, one case for each rule of 41_events.md and each way its handler's body can
go (R140 to R149, R160, R161). `exec_eq_next_iff` ties it to `exec`. -/
inductive Takes (s : State) : Instr → State → Prop
  | evStart : Takes s .evStart (s.setPending .start true)
  | evReset : Takes s .evReset (s.setPending .reset true)
  | evTick (hen : s.tickEn = true) : Takes s .evTick (s.setPending .tick true)
  | evRefresh : Takes s .evRefresh (s.setRefresh true)
  | evIn (v : Byte) : Takes s (.evIn v) (s.setIn v)
  | startIgnored (hen : s.startEn = true) (hpend : s.startPend = true)
      (hmode : classify params s.inBus = .invalid) :
      Takes s .isrStart (s.setPending .start false)
  | startAccepted (m : CycleMode) (hen : s.startEn = true) (hpend : s.startPend = true)
      (hmode : classify params s.inBus = .valid m) :
      Takes s .isrStart (beginCycle (s.setPending .start false))
  | reset (hpend : s.resetPend = true) :
      Takes s .isrReset (doReset params (s.setPending .reset false))
  | tickFrozen (hen : s.tickEn = true) (hpend : s.tickPend = true)
      (hmode : classify params s.inBus = .invalid) :
      Takes s .isrTick (s.setPending .tick false)
  | tickCounted (m : CycleMode) (p : Phase) (hen : s.tickEn = true)
      (hpend : s.tickPend = true) (hmode : classify params s.inBus = .valid m)
      (hphase : phase m (s.elapsed + 1) = .active p) :
      Takes s .isrTick (advanceCycle p (s.elapsed + 1) (s.setPending .tick false))
  | tickCompleted (m : CycleMode) (hen : s.tickEn = true)
      (hpend : s.tickPend = true) (hmode : classify params s.inBus = .valid m)
      (hphase : phase m (s.elapsed + 1) = .complete) :
      Takes s .isrTick (completeCycle params (s.setPending .tick false))
  | sample (hwait : s.fgPhase = .wait) (hflag : s.refreshFlag = true) :
      Takes s .fgSample (sampleDisplay params s)
  | write (hwrite : s.fgPhase = .write) : Takes s .fgWrite (writeDisplay s)

/-! ### The Start handler -/

/-- The Start handler is taken under its latch and its enable, and runs its body with the latch cleared
(41_events.md R145). -/
theorem exec_isrStart_eq_next {s t : State} :
    exec .isrStart s = .next t ↔
      s.startPend = true ∧ s.startEn = true ∧ startBody params (s.setPending .start false) = t :=
  takeHandler_eq_next

/-- In a valid mode the body begins a cycle (41_events.md R145). -/
theorem startBody_of_valid {c : Params} {s : State} (h : classify c s.inBus ≠ .invalid) :
    startBody c s = beginCycle s := by
  rcases startBody_cases c s with ⟨hmode, _⟩ | ⟨_, _, hbody⟩
  · exact absurd hmode h
  · exact hbody

/-- Under the fault pattern the body writes nothing (41_events.md R152). -/
theorem startBody_of_invalid {c : Params} {s : State} (h : classify c s.inBus = .invalid) :
    startBody c s = s := by
  rcases startBody_cases c s with ⟨_, hbody⟩ | ⟨_, hmode, _⟩
  · exact hbody
  · cases hmode.symm.trans h

section
variable {s : State} (hen : s.startEn = true) (hpend : s.startPend = true)
include hen hpend

/-- In a valid mode a start is accepted (41_events.md R145). -/
theorem exec_isrStart_of_valid (h : classify params s.inBus ≠ .invalid) :
    exec .isrStart s = .next (beginCycle (s.setPending .start false)) :=
  exec_isrStart_eq_next.2 ⟨hpend, hen, startBody_of_valid (s := s.setPending .start false) h⟩

/-- Under the fault pattern a start clears its latch and no more (41_events.md R152). -/
theorem exec_isrStart_of_invalid (h : classify params s.inBus = .invalid) :
    exec .isrStart s = .next (s.setPending .start false) :=
  exec_isrStart_eq_next.2 ⟨hpend, hen, startBody_of_invalid (s := s.setPending .start false) h⟩

end

/-! ### `exec` answers next along `Takes` -/

/-- A taken start is ignored or accepted (41_events.md R145, R152). -/
theorem takes_isrStart {s : State} (hpend : s.startPend = true) (hen : s.startEn = true) :
    Takes s .isrStart (startBody params (s.setPending .start false)) := by
  rcases startBody_cases params (s.setPending .start false) with ⟨hmode, hbody⟩ | ⟨m, hmode, hbody⟩
  · rw [hbody]; exact .startIgnored hen hpend hmode
  · rw [hbody]; exact .startAccepted m hen hpend hmode

/-- A taken tick is frozen, counted or completing (41_events.md R146 to R148). -/
theorem takes_isrTick {s : State} (hpend : s.tickPend = true) (hen : s.tickEn = true) :
    Takes s .isrTick (tickBody params (s.setPending .tick false)) := by
  rcases tickBody_cases params (s.setPending .tick false) with ⟨hmode, hbody⟩ | ⟨m, hmode, hbody⟩
  · rw [hbody]; exact .tickFrozen hen hpend hmode
  · rcases tickInMode_cases params m (s.setPending .tick false) with
      ⟨p, hphase, htick⟩ | ⟨hphase, htick⟩
    · rw [hbody, htick]; exact .tickCounted m p hen hpend hmode hphase
    · rw [hbody, htick]; exact .tickCompleted m hen hpend hmode hphase

/-- Every answer of `exec` is a case of `Takes`. -/
theorem takes_of_exec {i : Instr} {s t : State} (h : exec i s = .next t) : Takes s i t := by
  rcases exec_cases h with ⟨rfl, rfl⟩ | ⟨rfl, rfl⟩ | ⟨rfl, hen, rfl⟩ | ⟨rfl, rfl⟩ | ⟨v, rfl, rfl⟩ |
    ⟨rfl, hpend, hen, rfl⟩ | ⟨rfl, hpend, rfl⟩ | ⟨rfl, hpend, hen, rfl⟩ | ⟨rfl, hwait, hflag, rfl⟩ |
    ⟨rfl, hwrite, rfl⟩
  · exact .evStart
  · exact .evReset
  · exact .evTick hen
  · exact .evRefresh
  · exact .evIn v
  · exact takes_isrStart hpend hen
  · exact .reset hpend
  · exact takes_isrTick hpend hen
  · exact .sample hwait hflag
  · exact .write hwrite

/-- Every case of `Takes` is an answer of `exec`. -/
theorem exec_of_takes {i : Instr} {s t : State} (h : Takes s i t) : exec i s = .next t := by
  cases h with
  | evStart => exact exec_evStart s
  | evReset => exact exec_evReset s
  | evTick hen => exact exec_evTick_of_tickEn hen
  | evRefresh => exact exec_evRefresh s
  | evIn v => exact exec_evIn v s
  | startIgnored hen hpend hmode => exact exec_isrStart_of_invalid hen hpend hmode
  | startAccepted m hen hpend hmode =>
    exact exec_isrStart_of_valid hen hpend (by rw [hmode]; exact nofun)
  | reset hpend => exact exec_isrReset_eq_next.2 ⟨hpend, rfl⟩
  | tickFrozen hen hpend hmode => exact exec_isrTick_of_invalid hen hpend hmode
  | tickCounted m p hen hpend hmode hphase => exact exec_isrTick_of_active hen hpend hmode hphase
  | tickCompleted m hen hpend hmode hphase => exact exec_isrTick_of_complete hen hpend hmode hphase
  | sample hwait hflag => exact exec_fgSample_eq_next.2 ⟨hwait, hflag, rfl⟩
  | write hwrite => exact exec_fgWrite_eq_next.2 ⟨hwrite, rfl⟩

/-- `exec` answers next exactly along `Takes`. -/
theorem exec_eq_next_iff {i : Instr} {s t : State} : exec i s = .next t ↔ Takes s i t :=
  ⟨takes_of_exec, exec_of_takes⟩

/-! ### Writers -/

/-- Settles O13: in each case of `Takes` the elements that differ are those of its named updates. -/
theorem onlyListedWritersChangeAnElement : Obligations.OnlyListedWritersChangeAnElement := by
  intro i s t h
  cases takes_of_exec h <;> simp

end Sys2Proof.Machine
end

section
/-!
PROOFS. The invariant of the machine: each named update keeps it, so every step does (10_state.md R44 to
R46).
-/
namespace Sys2Proof.Machine

/-! ### The display byte's digit -/

/-- The digit of a rendered byte is the one it was rendered for, for either glyph (40_functions.md
R122). -/
theorem digitOf_render (c : Params) (idx : Fin 5) (d : Bit) (f : Bool) :
    digitOf (render c idx d f) = d := by
  rcases render_cases c idx d f with ⟨_, h⟩ | ⟨_, h⟩ <;> rw [h] <;>
    exact BitVec.extractLsb'_append_eq_left

/-- The digit of a display byte is the one it was computed for (40_functions.md R122, R123). -/
theorem digitOf_displayByte (c : Params) (bus : Byte) (d : Bit) (f : Bool) :
    digitOf (displayByte c bus d f) = d :=
  digitOf_render ..

/-- Settles O30: the digit stands alone above the glyph, and the completion glyph does not depend on the
index or the digit. -/
theorem displayDigitRoundTrip : Obligations.DisplayDigitRoundTrip := by
  refine ⟨digitOf_render, fun c i j => ?_⟩
  calc render c i 0 true ^^^ render c j 1 true
    _ = (0#1 ++ c.doneGlyph) ^^^ (1#1 ++ c.doneGlyph) := rfl
    _ = (0#1 ^^^ 1#1) ++ (c.doneGlyph ^^^ c.doneGlyph) := BitVec.xor_append
    _ = 0x80 := by rw [BitVec.xor_self]; rfl

/-! ### Each named update keeps the invariant -/

/-- Wash at 0 is the mask an accepted start writes (40_functions.md R104, 41_events.md R145). -/
theorem gen_wash_zero : gen .wash 0 = ledAt 0 := by decide

section
variable {s : State} (h : Inv s)
include h

/-- The invariant reads no Start latch. -/
theorem Inv.setPending_start (b : Bool) : Inv (s.setPending .start b) :=
  ⟨h.enables, h.rests, h.shows, h.bounded, h.latch⟩

/-- The invariant reads no Reset latch. -/
theorem Inv.setPending_reset (b : Bool) : Inv (s.setPending .reset b) :=
  ⟨h.enables, h.rests, h.shows, h.bounded, h.latch⟩

/-- Only an active cycle may have a pending tick (10_state.md R45). -/
theorem Inv.setPending_tick {b : Bool} (hen : s.tickEn = true) : Inv (s.setPending .tick b) :=
  ⟨h.enables, fun hoff => absurd (hen.symm.trans hoff) nofun, h.shows, h.bounded, h.latch⟩

/-- The invariant reads no refresh flag. -/
theorem Inv.setRefresh (b : Bool) : Inv (s.setRefresh b) :=
  ⟨h.enables, h.rests, h.shows, h.bounded, h.latch⟩

/-- The invariant does not read the input bus. -/
theorem Inv.setIn (v : Byte) : Inv (s.setIn v) :=
  ⟨h.enables, h.rests, h.shows, h.bounded, h.latch⟩

/-- The invariant does not read the script. -/
theorem Inv.withScript (ws : List EventWord) : Inv { s with script := ws } :=
  ⟨h.enables, h.rests, h.shows, h.bounded, h.latch⟩

/-- The reset semantics leave the rest values (41_events.md R150). -/
theorem Inv.doReset : Inv (doReset params s) where
  enables := rfl
  rests _ := ⟨rfl, rfl, rfl, rfl⟩
  shows hon := absurd hon nofun
  bounded := Nat.zero_le _
  latch := h.latch

/-- A new cycle shows wash at 0 (41_events.md R145). -/
theorem Inv.beginCycle : Inv (beginCycle s) where
  enables := rfl
  rests hoff := absurd hoff nofun
  shows _ := ⟨rfl, .wash, rfl, gen_wash_zero.symm⟩
  bounded := Nat.zero_le _
  latch := h.latch

/-- A counted tick shows its phase at the new count (41_events.md R146). -/
theorem Inv.advanceCycle {p : Phase} {e : Byte} (hen : s.tickEn = true) (he : e.toNat ≤ 127) :
    Inv (advanceCycle p e s) where
  enables := h.enables
  rests hoff := absurd (hen.symm.trans hoff) nofun
  shows _ := ⟨(h.shows hen).1, p, rfl, rfl⟩
  bounded := he
  latch := h.latch

/-- A completion leaves the rest values (41_events.md R148). -/
theorem Inv.completeCycle : Inv (completeCycle params s) where
  enables := rfl
  rests _ := ⟨rfl, rfl, rfl, rfl⟩
  shows hon := absurd hon nofun
  bounded := Nat.zero_le _
  latch := h.latch

/-- A sample latches the byte of the digit still selected (41_events.md R160). -/
theorem Inv.sampleDisplay : Inv (sampleDisplay params s) where
  enables := h.enables
  rests := h.rests
  shows := h.shows
  bounded := h.bounded
  latch _ := digitOf_displayByte ..

/-- After a write no byte waits (41_events.md R161). -/
theorem Inv.writeDisplay : Inv (writeDisplay s) where
  enables := h.enables
  rests := h.rests
  shows := h.shows
  bounded := h.bounded
  latch hwrite := absurd hwrite nofun

end

/-! ### Every step keeps the invariant -/

/-- A count dispatched to a phase is at most 127 (40_functions.md R107, R110). -/
theorem toNat_le_of_phase_eq_active {m : CycleMode} {e : Byte} {p : Phase}
    (h : phase m e = .active p) : e.toNat ≤ 127 := by
  have hend : spinEnd m ≤ 128 := by cases m <;> decide
  obtain ⟨_, _, _, hcomplete⟩ := phase_eq_iff m e
  have hno : ¬ spinEnd m ≤ e.toNat := fun hle => by
    cases h.symm.trans (hcomplete.2 hle)
  omega

/-- A step keeps the invariant, case by case of `Takes`. -/
theorem Takes.inv {i : Instr} {s t : State} (hstep : Takes s i t) (h : Inv s) : Inv t := by
  cases hstep with
  | evStart => exact h.setPending_start _
  | evReset => exact h.setPending_reset _
  | evTick hen => exact h.setPending_tick hen
  | evRefresh => exact h.setRefresh _
  | evIn v => exact h.setIn v
  | startIgnored => exact h.setPending_start _
  | startAccepted => exact (h.setPending_start _).beginCycle
  | reset => exact (h.setPending_reset _).doReset
  | tickFrozen hen => exact h.setPending_tick hen
  | tickCounted m p hen _ _ hphase =>
    exact (h.setPending_tick hen).advanceCycle hen (toNat_le_of_phase_eq_active hphase)
  | tickCompleted m hen => exact (h.setPending_tick hen).completeCycle
  | sample => exact h.sampleDisplay
  | write => exact h.writeDisplay

/-- Settles O14: nothing is active at power-on, and no byte waits to be written. -/
theorem powerOnMeetsTheInvariant : Obligations.PowerOnMeetsTheInvariant := fun _ _ _ =>
  ⟨rfl, fun _ => ⟨rfl, rfl, rfl, rfl⟩, nofun, Nat.zero_le _, nofun⟩

/-- Settles O15: a step idles or is a case of `Takes` on the state with its first word taken off. -/
theorem stepKeepsTheInvariant : Obligations.StepKeepsTheInvariant := by
  intro s t h hstep
  rcases step_cases hstep with ⟨_, rfl⟩ | ⟨w, rest, i, _, _, hexec⟩
  · exact h
  · exact (takes_of_exec hexec).inv (h.withScript rest)

/-- Every reachable state meets the invariant. -/
theorem Reachable.inv {s : State} (h : Reachable s) : Inv s := by
  induction h with
  | start bus latch display => exact powerOnMeetsTheInvariant bus latch display
  | next i s t _ hexec ih => exact (takes_of_exec hexec).inv ih

/-- The three duty bytes of the phases (40_functions.md R113). -/
theorem phaseDuty_cases (p : Phase) : phaseDuty p = 230 ∨ phaseDuty p = 128 ∨ phaseDuty p = 26 := by
  cases p <;> decide

/-- Settles O16: R45 is the invariant, with a phase's duty as one of the three bytes. -/
theorem reachableStatesAreConsistent : Obligations.ReachableStatesAreConsistent := by
  intro s hreach
  have h := hreach.inv
  refine ⟨h.enables, h.rests, fun hon => ?_, h.bounded⟩
  obtain ⟨hunfinished, p, hduty, _⟩ := h.shows hon
  exact ⟨hunfinished, h.bounded, hduty ▸ phaseDuty_cases p⟩

/-! ### What the invariant and the steps forbid -/

/-- In an active cycle the Start trigger is off (10_state.md R45). -/
theorem Inv.startEn_of_tickEn {s : State} (h : Inv s) (hen : s.tickEn = true) : s.startEn = false := by
  rw [h.enables, hen]
  rfl

/-- Up to ELAPSED = 127 the increment does not wrap (10_state.md R22). -/
theorem toNat_succ_of_le {e : Byte} (h : e.toNat ≤ 127) : (e + 1).toNat = e.toNat + 1 :=
  BitVec.toNat_add_of_lt (Nat.lt_of_le_of_lt (Nat.succ_le_succ h) (by decide))

/-- Settles O17: in an active cycle no start is accepted, a reset or a completion ends the activity, and
of the other cases only the counted tick writes ELAPSED. -/
theorem elapsedNeverFallsWhileActive : Obligations.ElapsedNeverFallsWhileActive := by
  intro i s t h hexec hen hstays
  cases takes_of_exec hexec with
  | startAccepted _ hstart => exact absurd (hstart.symm.trans (h.startEn_of_tickEn hen)) nofun
  | reset => exact absurd hstays nofun
  | tickFrozen _ _ hmode => simp [hmode]
  | tickCounted m p _ _ hmode =>
    exact ⟨(absurd rfl ·), fun _ hfault => absurd (hmode.symm.trans hfault) nofun,
      fun _ _ => toNat_succ_of_le h.bounded⟩
  | tickCompleted => exact absurd hstays nofun
  | evStart | evReset | evTick | evRefresh | evIn | startIgnored | sample | write => simp

/-- Settles O18: of the cases of `Takes` only the completing tick sets FINISHED. -/
theorem finishedOnlyByTheCompletionTick : Obligations.FinishedOnlyByTheCompletionTick := by
  intro i s t hexec hbefore hafter
  have hkept : t.finished ≠ s.finished := by rw [hbefore, hafter]; exact nofun
  cases takes_of_exec hexec with
  | tickCompleted m hen hpend hmode hphase => exact ⟨rfl, hen, hpend, m, hmode, hphase⟩
  | startAccepted => exact absurd hafter nofun
  | evStart | evReset | evTick | evRefresh | evIn | startIgnored | reset | tickFrozen | tickCounted
  | sample | write => simp at hkept

end Sys2Proof.Machine
end

section
/-!
PROOFS. The guard of each instruction, and a script run in order (41_events.md R164, 30_encoding.md R84).
-/
namespace Sys2Proof.Machine

/-! ### Guards -/

/-- Each instruction answers under its guard, or is stuck by one name (41_events.md R164). Where the guard
is constantly true no fault shows, so any name will do. -/
theorem exec_eq_guarded (i : Instr) (s : State) :
    ∃ (why : Fault) (t : State), exec i s = guarded (stepExists i s) why t := by
  cases i with
  | evStart => exact ⟨.stuckStartNotTaken, _, exec_evStart s⟩
  | evReset => exact ⟨.stuckResetNotTaken, _, exec_evReset s⟩
  | evTick => exact ⟨_, _, rfl⟩
  | evRefresh => exact ⟨.stuckSampleNotReady, _, exec_evRefresh s⟩
  | evIn v => exact ⟨.stuckSampleNotReady, _, exec_evIn v s⟩
  | isrStart => exact ⟨_, _, congrArg (guarded · _ _) (Bool.and_comm ..)⟩
  | isrReset => exact ⟨_, _, congrArg (guarded · _ _) (Bool.and_true _)⟩
  | isrTick => exact ⟨_, _, congrArg (guarded · _ _) (Bool.and_comm ..)⟩
  | fgSample => exact ⟨_, _, rfl⟩
  | fgWrite => exact ⟨_, _, rfl⟩

/-- Settles O31: a guarded answer is next under its guard and stuck without it. -/
theorem stepExistsExactlyUnderItsGuard : Obligations.StepExistsExactlyUnderItsGuard := by
  intro i s
  obtain ⟨why, t, hexec⟩ := exec_eq_guarded i s
  rw [hexec]
  exact ⟨fun hg => ⟨t, guarded_eq_next.2 ⟨hg, rfl⟩⟩, fun hg => ⟨why, guarded_eq_fault.2 ⟨hg, rfl⟩⟩⟩

/-! ### No meaning reads or writes the script -/

/-- An outcome with its next state, where there is one, changed by `f`. -/
def mapNext (f : State → State) : Host.Outcome State Fault Refusal → Host.Outcome State Fault Refusal
  | .next t => .next (f t)
  | .fault why => .fault why
  | .refused why => .refused why

/-- A guarded answer changed is guarded by the same guard. -/
theorem mapNext_guarded (f : State → State) (g : Bool) (why : Fault) (t : State) :
    mapNext f (guarded g why t) = guarded g why (f t) := by
  cases g <;> rfl

/-- The Start handler's body leaves the script alone. -/
theorem startBody_loadScript (c : Params) (is : List Instr) (s : State) :
    startBody c (loadScript is s) = loadScript is (startBody c s) := by
  unfold startBody
  rw [show (loadScript is s).sampleIn = s.sampleIn from rfl]
  cases classify c s.sampleIn <;> rfl

/-- The Tick handler's body leaves the script alone. -/
theorem tickBody_loadScript (c : Params) (is : List Instr) (s : State) :
    tickBody c (loadScript is s) = loadScript is (tickBody c s) := by
  unfold tickBody tickInMode
  rw [show (loadScript is s).sampleIn = s.sampleIn from rfl,
    show nextElapsed (loadScript is s) = nextElapsed s from rfl]
  cases classify c s.sampleIn with
  | invalid => rfl
  | valid m =>
    dsimp only
    cases phase m (nextElapsed s) <;> rfl

/-- Whatever script is loaded, an event answers the same, and leaves the script as it was. -/
theorem exec_loadScript (is : List Instr) (i : Instr) (s : State) :
    exec i (loadScript is s) = mapNext (loadScript is) (exec i s) := by
  cases i with
  | evStart | evReset | evRefresh | evIn => rfl
  | evTick => exact (mapNext_guarded (loadScript is) _ _ (s.setPending .tick true)).symm
  | isrReset =>
    exact (mapNext_guarded (loadScript is) _ _ (doReset params (s.setPending .reset false))).symm
  | fgSample => exact (mapNext_guarded (loadScript is) _ _ (sampleDisplay params s)).symm
  | fgWrite => exact (mapNext_guarded (loadScript is) _ _ (writeDisplay s)).symm
  | isrStart =>
    refine Eq.trans ?_ (mapNext_guarded ..).symm
    exact congrArg (guarded _ _) (startBody_loadScript params is (s.setPending .start false))
  | isrTick =>
    refine Eq.trans ?_ (mapNext_guarded ..).symm
    exact congrArg (guarded _ _) (tickBody_loadScript params is (s.setPending .tick false))

/-! ### Loaded scripts -/

/-- A step through a loaded script is its first event, with the rest left loaded
(30_encoding.md R84). -/
theorem step_loadScript_cons (i : Instr) (is : List Instr) (s : State) :
    step (loadScript (i :: is) s) = exec i (loadScript is s) :=
  step_of_decode rfl (decode_encode i)

/-- Settles O34: each step runs the first event with the others left loaded, and an event answers the
same whatever is loaded. -/
theorem loadedScriptRunsInOrder : Obligations.LoadedScriptRunsInOrder := by
  intro is
  induction is with
  | nil => exact fun s => rfl
  | cons i is ih =>
    intro s
    have hstep : core.step (loadScript (i :: is) s) = mapNext (loadScript is) (exec i s) :=
      (step_loadScript_cons i is s).trans (exec_loadScript is i s)
    have hexec : exec i { s with script := [] } = mapNext (loadScript []) (exec i s) :=
      exec_loadScript [] i s
    simp only [List.length_cons, Host.Core.run, runEvents, hstep, hexec]
    cases exec i s with
    | next t => exact ih t
    | fault why => rfl
    | refused why => rfl

end Sys2Proof.Machine
end

section
/-!
PROOFS. The rule of each guarded event: its next state, and that it is stuck without its guard
(41_events.md R142 to R161).
-/
namespace Sys2Proof.Machine

/-! ### Stuck without the guard -/

/-- A handler is stuck exactly where its source is not both pending and enabled (60_exceptions.md
R185). -/
theorem takeHandler_of_not_canTake {src : Source} {why : Fault} {body : State → State} {s : State}
    (h : canTake src s = false) : takeHandler src why body s = .fault why :=
  guarded_eq_fault.2 ⟨h, rfl⟩

/-- A handler whose source is disabled or not pending is not taken (60_exceptions.md R185). -/
theorem canTake_eq_false {src : Source} {s : State}
    (h : s.sourceEnabled src = false ∨ s.pending src = false) : canTake src s = false := by
  rcases h with h | h <;> simp [canTake, h]

/-- A disabled tick source produces no event (41_events.md R142). -/
theorem exec_evTick_of_not_tickEn {s : State} (h : s.tickEn = false) :
    exec .evTick s = .fault .stuckTickSourceDisabled :=
  guarded_eq_fault.2 ⟨h, rfl⟩

/-- A start without its guard is stuck (41_events.md R145). -/
theorem exec_isrStart_stuck {s : State} (h : s.startEn = false ∨ s.startPend = false) :
    exec .isrStart s = .fault .stuckStartNotTaken :=
  takeHandler_of_not_canTake (canTake_eq_false h)

/-- A tick without its guard is stuck (41_events.md R146). -/
theorem exec_isrTick_stuck {s : State} (h : s.tickEn = false ∨ s.tickPend = false) :
    exec .isrTick s = .fault .stuckTickNotTaken :=
  takeHandler_of_not_canTake (canTake_eq_false h)

/-- A reset that is not pending is stuck (41_events.md R149). -/
theorem exec_isrReset_stuck {s : State} (h : s.resetPend = false) :
    exec .isrReset s = .fault .stuckResetNotTaken :=
  takeHandler_of_not_canTake (canTake_eq_false (.inr h))

/-- A sample outside WAIT or without the flag is stuck (41_events.md R160). -/
theorem exec_fgSample_stuck {s : State} (h : s.fgPhase = .write ∨ s.refreshFlag = false) :
    exec .fgSample s = .fault .stuckSampleNotReady := by
  refine guarded_eq_fault.2 ⟨?_, rfl⟩
  rcases h with h | h <;> simp [h]

/-- A write in WAIT is stuck (41_events.md R161). -/
theorem exec_fgWrite_stuck {s : State} (h : s.fgPhase = .wait) :
    exec .fgWrite s = .fault .stuckWriteNotReady :=
  guarded_eq_fault.2 ⟨by rw [h]; rfl, rfl⟩

/-! ### The tick source and the Start handler -/

/-- Settles O37: a guarded write of the latch, idle where the latch is set. -/
theorem tickNeedsItsSourceEnabled : Obligations.TickNeedsItsSourceEnabled :=
  ⟨decode_encode .evTick, fun _ => exec_evTick_of_tickEn, fun _ => exec_evTick_of_not_tickEn,
    fun s hen hpend => by
      rw [exec_evTick_of_tickEn hen, setPending_of_pending_eq (src := .tick) hpend]⟩

/-- Settles O40: the handler's body on the state with its latch cleared, in its two cases. -/
theorem startHandler : Obligations.StartHandler :=
  ⟨decode_encode .isrStart, fun _ =>
    ⟨exec_isrStart_of_valid, exec_isrStart_of_invalid, exec_isrStart_stuck⟩⟩

/-- Under the default layout the fault field is IN[1:0] (30_encoding.md R70). -/
theorem classify_params_of_low_bits {bus : Byte} (h : bus.extractLsb' 0 2 = 0b11) :
    classify params bus = .invalid :=
  (classify_eq_invalid_iff params bus).2 (beq_iff_eq.2 h)

/-- Settles O41: under the fault pattern the start is ignored. -/
theorem invalidStartChangesOnlyItsLatch : Obligations.InvalidStartChangesOnlyItsLatch :=
  fun _ hen hpend hfault =>
    ⟨_, exec_isrStart_of_invalid hen hpend (classify_params_of_low_bits hfault), rfl, rfl, rfl⟩

/-! ### The Tick handler -/

/-- Settles O42: frozen, counted and completed are the three cases of the handler's body. -/
theorem tickHandler : Obligations.TickHandler :=
  ⟨decode_encode .isrTick, fun _ =>
    ⟨exec_isrTick_of_invalid, fun _ _ hen hpend => exec_isrTick_of_active hen hpend,
      fun _ hen hpend => exec_isrTick_of_complete hen hpend, exec_isrTick_stuck⟩⟩

/-- A phase's duty byte tells the phase: the three bytes differ (40_functions.md R113). -/
@[simp] theorem phaseOfDuty_phaseDuty (p : Phase) : phaseOfDuty (phaseDuty p) = some p := by
  cases p <;> decide

/-- The active phase after a counted tick is the one dispatched to (10_state.md R41). -/
theorem activePhase_advanceCycle {s : State} (hen : s.tickEn = true) (p : Phase) (e : Byte) :
    (advanceCycle p e s).activePhase = some p := by
  simp [State.activePhase, hen]

/-- An active cycle counts at ELAPSED (10_state.md R41). -/
theorem cycleState_of_tickEn {s : State} (hen : s.tickEn = true) :
    s.cycleState = .active s.elapsed :=
  if_pos hen

/-- Settles O43: an accepted start writes wash's duty and a counted tick its phase's, and the three
bytes tell the phases apart. -/
theorem activePhaseIsTheLastDispatched : Obligations.ActivePhaseIsTheLastDispatched := by
  refine ⟨fun s hen hpend hmode => ?_, fun s m p hen hpend hmode hphase => ?_,
    fun s v => ⟨_, exec_evIn v s, rfl⟩⟩
  · exact ⟨_, exec_isrStart_of_valid hen hpend hmode, phaseOfDuty_phaseDuty .wash, rfl⟩
  · have hactive := activePhase_advanceCycle (s := s.setPending .tick false) hen p (s.elapsed + 1)
    exact ⟨_, exec_isrTick_of_active hen hpend hmode hphase, hactive, cycleState_of_tickEn hen,
      congrArg (Option.map phaseDuty) hactive⟩

/-! ### The Reset handler -/

/-- A pending Reset runs the reset semantics and, where the parameter says so, clears FINISHED
(41_events.md R149). -/
theorem isrResetWith_of_resetPend (c : Params) {s : State} (h : s.resetPend = true) :
    isrResetWith c s = .next (resetBody c (s.setPending .reset false)) :=
  takeHandler_eq_next.2 ⟨h, rfl, rfl⟩

/-- FINISHED after the Reset handler, for either value of the parameter (41_events.md R149). -/
theorem clearFinishedIf_eq (b : Bool) (s : State) :
    clearFinishedIf b s = { s with finished := s.finished && !b } := by
  cases b <;> simp [clearFinishedIf]

/-- Settles O46: the reset semantics on the state with the latch cleared, then FINISHED by the
parameter, which is false for `exec`. -/
theorem resetHandler : Obligations.ResetHandler := by
  refine ⟨decode_encode .isrReset, fun c s => rfl, fun c s hpend => ?_,
    fun s hpend => exec_isrReset_eq_next.2 ⟨hpend, rfl⟩, fun s => exec_isrReset_stuck⟩
  rw [isrResetWith_of_resetPend c hpend, resetBody, clearFinishedIf_eq]
  rfl

/-- Settles O19: what the reset semantics and the cleared latch do not write is what the statement
names. -/
theorem resetButtonIsNotPowerOn : Obligations.ResetButtonIsNotPowerOn :=
  fun _ hpend => exec_isrReset_eq_next.2 ⟨hpend, rfl⟩

/-- A Reset edge and its handler, in every state (41_events.md R141, R149). -/
theorem runEvents_reset (s : State) :
    runEvents [.evReset, .isrReset] s = .next (doReset params (s.setPending .reset false)) := by
  rw [runEvents_cons_of_next (exec_evReset s),
    runEvents_cons_of_next (exec_isrReset_eq_next.2 ⟨setPending_reset_resetPend s true, rfl⟩)]
  rfl

/-- Settles O47: what the first Reset wrote, the second writes again. -/
theorem resetIsIdempotent : Obligations.ResetIsIdempotent := by
  intro s t h
  obtain ⟨_, rfl⟩ := exec_isrReset_eq_next.1 h
  rw [runEvents_reset]
  rfl

/-- A cycle is Finished exactly with the tick source off and FINISHED set (10_state.md R41). -/
theorem cycleState_eq_finished_iff {s : State} :
    s.cycleState = .finished ↔ s.tickEn = false ∧ s.finished = true := by
  unfold State.cycleState
  cases s.tickEn <;> cases s.finished <;> simp

/-- Settles O48: the reset semantics turn the tick source off and do not write FINISHED. -/
theorem resetWhileFinishedStaysFinished : Obligations.ResetWhileFinishedStaysFinished := by
  intro s t hfin hrun
  obtain ⟨_, hset⟩ := cycleState_eq_finished_iff.1 hfin
  rw [runEvents_reset, Host.Outcome.next.injEq] at hrun
  subst hrun
  exact cycleState_eq_finished_iff.2 ⟨rfl, hset⟩

/-! ### The foreground's steps -/

/-- Settles O54: a guarded record of the three writes. -/
theorem sampleStep : Obligations.SampleStep :=
  ⟨decode_encode .fgSample, fun _ =>
    ⟨fun hwait hflag => exec_fgSample_eq_next.2 ⟨hwait, hflag, rfl⟩, exec_fgSample_stuck⟩⟩

/-- Toggling the digit is its complement (41_events.md R161). -/
theorem xor_one_eq_not (d : Bit) : d ^^^ 1 = ~~~d := by
  revert d; decide

/-- Settles O55: a guarded record of the three writes; after a sample the byte written carries the digit
sampled. -/
theorem writeStep : Obligations.WriteStep := by
  refine ⟨decode_encode .fgWrite, fun s => ⟨fun hwrite => exec_fgWrite_eq_next.2 ⟨hwrite, rfl⟩,
    exec_fgWrite_stuck, fun u t _ hsample hwrite => ?_⟩⟩
  obtain ⟨_, _, rfl⟩ := exec_fgSample_eq_next.1 hsample
  obtain ⟨_, rfl⟩ := exec_fgWrite_eq_next.1 hwrite
  exact ⟨digitOf_displayByte .., xor_one_eq_not s.digit⟩

/-- Settles O58: the sample's guard and its byte read the five elements alone. -/
theorem sampleReadsOnlyFinishedOfTheHandlers : Obligations.SampleReadsOnlyFinishedOfTheHandlers := by
  intro s u t hbus hdigit hfinished hphase hflag hsample
  obtain ⟨hwait, hset, rfl⟩ := exec_fgSample_eq_next.1 hsample
  refine ⟨_, exec_fgSample_eq_next.2 ⟨hphase ▸ hwait, hflag ▸ hset, rfl⟩, ?_, rfl, rfl⟩
  simp [hbus, hdigit, hfinished]

/-- No handler writes FG_PHASE or FG_LATCH (10_state.md R20). -/
theorem handler_keeps_foreground {i : Instr} {s t : State} (hi : i ∈ handlers)
    (h : exec i s = .next t) : t.fgPhase = s.fgPhase ∧ t.fgLatch = s.fgLatch := by
  obtain ⟨_, _, _, _, _, _, _, _, _, hphase, hlatch, _⟩ :=
    onlyListedWritersChangeAnElement i s t h
  have hno : i ≠ .fgSample ∧ i ≠ .fgWrite := by
    constructor <;> rintro rfl <;> revert hi <;> decide
  refine ⟨by_contra fun hne => ?_, by_contra fun hne => hno.1 (hlatch hne)⟩
  exact (hphase hne).elim hno.1 hno.2

/-- Settles O59: the handler leaves the latched byte and the WRITE phase of the sample alone. -/
theorem displayByteMayBeStale : Obligations.DisplayByteMayBeStale := by
  intro i s a b hi hsample hexec
  obtain ⟨hphase, hlatch⟩ := handler_keeps_foreground hi hexec
  obtain ⟨_, _, rfl⟩ := exec_fgSample_eq_next.1 hsample
  exact ⟨_, exec_fgWrite_eq_next.2 ⟨hphase, rfl⟩, hlatch⟩

end Sys2Proof.Machine
end

section
/-!
PROOFS. The classes of inputs, the phases' counts, the views and the pseudo-instructions
(30_encoding.md R72, R86; 40_functions.md R107 to R114; 10_state.md R35).
-/
namespace Sys2Proof.Machine

/-! ### The eight classes of inputs -/

/-- The glyph index reads no more of a sample than its level field and its select bit
(40_functions.md R120). -/
theorem valueIndex_congr {c : Params} {a b : Byte} (hlevel : levelField c a = levelField c b)
    (hsel : extendedSelected c a = extendedSelected c b) (d : Bit) :
    valueIndex c a d = valueIndex c b d := by
  rw [valueIndex, valueIndex, hlevel, hsel]

/-- Under the default layout the classifier reads IN[2:0] alone (40_functions.md R100). -/
theorem classify_params_append (hi : BitVec 5) (lo : BitVec 3) :
    classify params (hi ++ lo) = classify params (0#5 ++ lo) := by
  obtain ⟨_, hignored⟩ := classifierByInputBits
  refine hignored _ _ ?_
  rw [BitVec.extractLsb'_append_eq_right, BitVec.extractLsb'_append_eq_right]

/-- Under the default layout the glyph index reads IN[2:0] alone (30_encoding.md R72). -/
theorem valueIndex_params_append (hi : BitVec 5) (lo : BitVec 3) (d : Bit) :
    valueIndex params (hi ++ lo) d = valueIndex params (0#5 ++ lo) d := by
  have hbit (k : Nat) (hk : k < 3) : (hi ++ lo).getLsbD k = (0#5 ++ lo).getLsbD k := by
    rw [BitVec.getLsbD_append, BitVec.getLsbD_append, if_pos hk, if_pos hk]
  have hsel : extendedSelected params (hi ++ lo) = extendedSelected params (0#5 ++ lo) :=
    hbit 2 (by decide)
  refine valueIndex_congr (BitVec.eq_of_getLsbD_eq fun k hk => ?_) hsel d
  simp only [levelField, BitVec.getLsbD_extractLsb']
  exact congrArg _ (hbit _ (by simp only [params]; omega))

/-- Settles O6: IN[7:3] is not read, and with it 0 there are eight samples. -/
theorem defaultInputClasses : Obligations.DefaultInputClasses := by
  intro hi
  simp only [classify_params_append hi, valueIndex_params_append hi]
  decide

/-! ### The patterns' period -/

/-- The step index, the chase position and the parity depend on `e mod 32` (40_functions.md R103). -/
theorem visualStep_chasePos_parity_congr {e f : Byte} (h : e.toNat % 32 = f.toNat % 32) :
    visualStep e = visualStep f ∧ chasePos e = chasePos f ∧ e.toNat % 2 = f.toNat % 2 := by
  unfold visualStep chasePos
  omega

/-- Settles O24: the generators read the step index, the chase position and the parity alone, and the
dispatch bounds are the thresholds of the two modes. -/
theorem patternsRepeatEvery32Ticks : Obligations.PatternsRepeatEvery32Ticks := by
  refine ⟨fun e f h => ?_, fun m e => ?_⟩
  · obtain ⟨hstep, hpos, hparity⟩ := visualStep_chasePos_parity_congr h
    simp only [wash, rinse, spin, hstep, hpos, hparity, and_self]
  · obtain ⟨hwash, hrinse, hspin, _⟩ := phase_eq_iff m e
    have hends : 64 ≤ rinseEnd m ∧ rinseEnd m ≤ 96 ∧ spinEnd m ≤ 128 := by cases m <;> decide
    rw [hwash, hrinse, hspin]
    omega

/-- Settles O26: the definitions, phase by phase. -/
theorem phaseOutputs : Obligations.PhaseOutputs :=
  ⟨fun _ => ⟨rfl, rfl, rfl⟩, rfl, rfl, rfl⟩

/-- Settles O27: the increment does not wrap, and the count reached lies in the named interval of each
mode. -/
theorem modeChangeMovesTheThresholds : Obligations.ModeChangeMovesTheThresholds := by
  refine fun x => ⟨fun h95 h127 => ?_, fun h63 h94 => ?_⟩
  · exact (phase_succ_eq_complete_iff .normal h127).2 (Nat.succ_le_succ h95)
  · have hsucc : (x + 1).toNat = x.toNat + 1 := toNat_succ_of_le (by omega)
    obtain ⟨_, _, hspin, _⟩ := phase_eq_iff .normal (x + 1)
    obtain ⟨_, hrinse, _⟩ := phase_eq_iff .extended (x + 1)
    rw [hspin, hrinse, hsucc]
    simp only [rinseEnd, spinEnd]
    omega

/-! ### Reset and the views -/

/-- Settles O10: the reset state is a power-on state by definition, and without a script a step idles. -/
theorem resetStateIdlesWithoutEvents : Obligations.ResetStateIdlesWithoutEvents :=
  ⟨rfl, rfl, step_of_script_nil rfl⟩

/-- FG_PHASE reads 1 exactly in WRITE (10_state.md R20). -/
theorem toBit_beq_one (p : FgPhase) : (p.toBit == 1) = (p == .write) := by
  cases p <;> decide

/-- A one-bit element reads as whether it is 1. -/
theorem bit_getLsbD_zero (d : Bit) : d.getLsbD 0 = (d == 1) := by
  revert d; decide

/-- A stored flag reads as itself. -/
theorem ofBool_beq_one (b : Bool) : (BitVec.ofBool b == 1) = b := by
  cases b <;> rfl

/-- The lowest bit of a row of fields is its last one-bit field. -/
theorem getLsbD_append_bit_zero {n : Nat} (row : BitVec n) (b : Bit) :
    (row ++ b).getLsbD 0 = b.getLsbD 0 := by
  rw [BitVec.getLsbD_append, if_pos Nat.zero_lt_one]

/-- The bits above the last one-bit field of a row are those of the fields before it. -/
theorem getLsbD_append_bit_succ {n : Nat} (row : BitVec n) (b : Bit) (k : Nat) :
    (row ++ b).getLsbD (k + 1) = row.getLsbD k := by
  rw [BitVec.getLsbD_append, if_neg (by omega), Nat.add_sub_cancel]

/-- Bit `k` of the CTRL view's table (10_state.md R35). -/
def ctrlBit (s : State) : Nat → Bool
  | 0 => s.tickEn
  | 1 => s.startEn
  | 2 => true
  | 3 => s.finished
  | 4 => s.digit == 1
  | 5 => s.fgPhase == .write
  | _ => false

/-- Bit `k` of the PEND view's table (10_state.md R35). -/
def pendBit (s : State) : Nat → Bool
  | 0 => s.tickPend
  | 1 => s.startPend
  | 2 => s.resetPend
  | 3 => s.refreshFlag
  | _ => false

/-- The CTRL view, bit by bit: a row of one-bit fields below its reserved zeros. -/
theorem ctrlView_getLsbD (s : State) (k : Nat) : s.ctrlView.getLsbD k = ctrlBit s k := by
  change BitVec.getLsbD (0#2 ++ s.fgPhase.toBit ++ s.digit ++ BitVec.ofBool s.finished ++
    BitVec.ofBool true ++ BitVec.ofBool s.startEn ++ BitVec.ofBool s.tickEn) k = _
  rcases k with _ | _ | _ | _ | _ | _ | k <;>
  simp only [getLsbD_append_bit_zero, getLsbD_append_bit_succ, bit_getLsbD_zero,
    ofBool_beq_one, toBit_beq_one, BitVec.getLsbD_zero, ctrlBit]

/-- The PEND view, bit by bit: a row of one-bit fields below its reserved zeros. -/
theorem pendView_getLsbD (s : State) (k : Nat) : s.pendView.getLsbD k = pendBit s k := by
  change BitVec.getLsbD (0#4 ++ BitVec.ofBool s.refreshFlag ++ BitVec.ofBool s.resetPend ++
    BitVec.ofBool s.startPend ++ BitVec.ofBool s.tickPend) k = _
  rcases k with _ | _ | _ | _ | k <;>
  simp only [getLsbD_append_bit_zero, getLsbD_append_bit_succ, bit_getLsbD_zero,
    ofBool_beq_one, BitVec.getLsbD_zero, pendBit]

/-- A field whose bits are all 0 in the row reads 0. -/
theorem extractLsb'_eq_zero {b : Byte} {start len : Nat}
    (h : ∀ k, b.getLsbD (start + k) = false) : b.extractLsb' start len = 0 := by
  refine BitVec.eq_of_getLsbD_eq fun k _ => ?_
  rw [BitVec.getLsbD_extractLsb', h, Bool.and_false]
  exact BitVec.getLsbD_zero.symm

/-- Settles O11: the two views are their tables, bit by bit, above which every bit is 0. -/
theorem controlAndPendingViews : Obligations.ControlAndPendingViews := by
  intro s
  have hctrl := ctrlView_getLsbD s
  have hpend := pendView_getLsbD s
  have hctrl6 : s.ctrlView.extractLsb' 6 2 = 0 :=
    extractLsb'_eq_zero fun k => by rw [Nat.add_comm]; exact hctrl (k + 6)
  have hpend4 : s.pendView.extractLsb' 4 4 = 0 :=
    extractLsb'_eq_zero fun k => by rw [Nat.add_comm]; exact hpend (k + 4)
  exact ⟨hctrl 0, hctrl 1, hctrl 2, hctrl 3, hctrl 4, hctrl 5, hctrl6,
    hpend 0, hpend 1, hpend 2, hpend 3, hpend4,
    fun c bus latch display => ⟨ctrlView_powerOn .., pendView_powerOn ..⟩⟩

/-! ### The pseudo-instructions -/

/-- Repeating is flattening as many copies (30_encoding.md R86). -/
theorem repeatEvents_eq_flatten (n : Nat) (is : List Instr) :
    repeatEvents n is = (List.replicate n is).flatten := by
  induction n with
  | zero => rfl
  | succ n ih => rw [repeatEvents, ih, List.replicate_succ, List.flatten_cons]

/-- Settles O8: each expansion is its definition, the counted ones as a flattened list of copies. -/
theorem pseudoInstructionExpansions : Obligations.PseudoInstructionExpansions :=
  ⟨rfl, rfl, rfl, fun n => repeatEvents_eq_flatten n _, rfl, fun n => repeatEvents_eq_flatten n _,
    rfl, rfl, rfl, rfl, rfl, rfl, rfl,
    fun _ => decide_eq_true_iff, fun _ => decide_eq_true_iff, fun _ => decide_eq_true_iff,
    fun _ => decide_eq_true_iff⟩

end Sys2Proof.Machine
end

section
/-!
PROOFS. Races, steady ticks and what every run writes (41_events.md R148, R153, R162; 60_exceptions.md
R186, R196; 10_state.md R32).
-/
namespace Sys2Proof.Machine

/-! ### Runs -/

/-- A run whose first event is stuck is stuck there (30_encoding.md R84). -/
theorem runEvents_cons_of_fault {i : Instr} {s : State} {why : Fault} (h : exec i s = .fault why)
    (is : List Instr) : runEvents (i :: is) s = .fault why := by
  simp only [runEvents, h]

/-- A run goes on from the state its first part ends in (30_encoding.md R84). -/
theorem runEvents_append_of_next {is : List Instr} {s t : State} (h : runEvents is s = .next t)
    (js : List Instr) : runEvents (is ++ js) s = runEvents js t := by
  induction is generalizing s with
  | nil => cases h; rfl
  | cons i is ih =>
    cases hexec : exec i s with
    | next u =>
      rw [runEvents_cons_of_next hexec] at h
      rw [List.cons_append, runEvents_cons_of_next hexec, ih h]
    | fault why => rw [runEvents_cons_of_fault hexec] at h; cases h
    | refused why => simp only [runEvents, hexec] at h; cases h

/-! ### A Start edge in an active cycle -/

/-- Settles O49: an active cycle has the Start trigger off, and of the steps that end it each clears the
Start latch. -/
theorem startEdgeWhileActiveIsLost : Obligations.StartEdgeWhileActiveIsLost := by
  refine fun s h hen => ⟨?_, fun i t hexec hends => ?_⟩
  · have hstuck := exec_isrStart_stuck (s := s.setPending .start true) (.inl (h.startEn_of_tickEn hen))
    rw [runEvents_cons_of_next (exec_evStart s), runEvents_cons_of_fault hstuck]
  · cases takes_of_exec hexec with
    | reset | tickCompleted => rfl
    | startAccepted => exact absurd hends nofun
    | evStart | evReset | evTick | evRefresh | evIn | startIgnored | tickFrozen | tickCounted
    | sample | write => simp [hen] at hends

/-! ### A pending Reset and a pending Tick -/

/-- Whatever a tick does, a Reset after it leaves what a Reset alone leaves, but for FINISHED
(70_reset_and_hazards.md R225). -/
theorem doReset_after_tick {s u : State} (h : Takes s .isrTick u) :
    doReset params (s.setPending .reset false) =
      { doReset params (u.setPending .reset false) with finished := s.finished } := by
  cases h <;> rfl

/-- A Reset after a tick that did not complete leaves what a Reset alone leaves
(70_reset_and_hazards.md R225). -/
theorem doReset_after_tick_of_finished_eq {s u : State} (h : Takes s .isrTick u)
    (hkept : u.finished = s.finished) :
    doReset params (u.setPending .reset false) = doReset params (s.setPending .reset false) := by
  rw [doReset_after_tick h, ← hkept]
  rfl

/-- Settles O50: both orders end in the reset semantics, which write all that a tick writes but
FINISHED. -/
theorem resetAndTickRace : Obligations.ResetAndTickRace := by
  intro s hen htick hreset
  obtain ⟨u, hu⟩ : ∃ u, exec .isrTick s = .next u := ⟨_, exec_isrTick_eq_next.2 ⟨htick, hen, rfl⟩⟩
  have htakes := takes_of_exec hu
  have hpend : u.resetPend = true := by cases htakes <;> exact hreset
  refine ⟨doReset params (s.setPending .reset false), doReset params (u.setPending .reset false),
    ?_, ?_, exec_isrTick_stuck (.inl rfl), doReset_after_tick htakes, rfl, fun hne => ?_⟩
  · exact runEvents_cons_of_next (exec_isrReset_eq_next.2 ⟨hreset, rfl⟩) []
  · rw [runEvents_cons_of_next hu]
    exact runEvents_cons_of_next (exec_isrReset_eq_next.2 ⟨hpend, rfl⟩) []
  · cases htakes with
    | tickCompleted m _ _ hmode hphase => exact ⟨rfl, m, hmode, hphase⟩
    | tickFrozen | tickCounted =>
      exact absurd (doReset_after_tick_of_finished_eq (takes_of_exec hu) rfl) hne

/-! ### Steady ticks -/

/-- LED and DUTY show the phase of ELAPSED in a mode (40_functions.md R112, R113). -/
def showsPhaseOf (m : CycleMode) (s : State) : Prop :=
  ∃ p, phase m s.elapsed = .active p ∧ s.duty = phaseDuty p ∧ s.led = gen p s.elapsed

/-- A count below the end of the mode's spin is dispatched to a phase (40_functions.md R110). -/
theorem exists_phase_of_lt {m : CycleMode} {e : Byte} (h : e.toNat < spinEnd m) :
    ∃ p, phase m e = .active p := by
  obtain ⟨_, _, _, hcomplete⟩ := phase_eq_iff m e
  cases hphase : phase m e with
  | active p => exact ⟨p, rfl⟩
  | complete => exact absurd h (Nat.not_lt.2 (hcomplete.1 hphase))

/-- One tick in a valid mode short of its end: the cycle stays active, ELAPSED counts by one, and the
outputs show the phase (41_events.md R146). -/
theorem runEvents_tick_of_lt {m : CycleMode} {s : State} (hen : s.tickEn = true)
    (hmode : classify params s.inBus = .valid m) (hlt : s.elapsed.toNat + 1 < spinEnd m) :
    ∃ t, runEvents [.evTick, .isrTick] s = .next t ∧ t.tickEn = true ∧ t.inBus = s.inBus ∧
      t.elapsed.toNat = s.elapsed.toNat + 1 ∧ showsPhaseOf m t := by
  have hend : spinEnd m ≤ 128 := by cases m <;> decide
  have hsucc : (s.elapsed + 1).toNat = s.elapsed.toNat + 1 := toNat_succ_of_le (by omega)
  obtain ⟨p, hphase⟩ := exists_phase_of_lt (hsucc.trans_lt hlt)
  exact ⟨_, runEvents_tick_of_active hen hmode hphase, hen, rfl, hsucc, p, hphase, rfl, rfl⟩

/-- The tick that reaches the end of a valid mode completes the cycle (41_events.md R148). -/
theorem runEvents_tick_of_end {m : CycleMode} {s : State} (hen : s.tickEn = true)
    (hmode : classify params s.inBus = .valid m) (hend : s.elapsed.toNat + 1 = spinEnd m) :
    runEvents [.evTick, .isrTick] s = .next (completeCycle params (s.setPending .tick false)) := by
  have hle : spinEnd m ≤ 128 := by cases m <;> decide
  have hphase : phase m (s.elapsed + 1) = .complete :=
    (phase_succ_eq_complete_iff m (by omega)).2 hend.ge
  have hcompletes :=
    exec_isrTick_of_complete (s := s.setPending .tick true) hen rfl hmode hphase
  rw [runEvents_cons_of_next (exec_evTick_of_tickEn hen), runEvents_cons_of_next hcompletes]
  rfl

/-- One more tick is a tick after the others (30_encoding.md R86). -/
theorem expand_tick_succ (n : Nat) :
    (Pseudo.tick (n + 1)).expand = (Pseudo.tick n).expand ++ [.evTick, .isrTick] := by
  simp only [Pseudo.expand, repeatEvents_eq_flatten, List.replicate_succ', List.flatten_append,
    List.flatten_cons, List.flatten_nil, List.append_nil]

/-- `n` ticks in a valid mode short of its end: ELAPSED counts by `n`, and after a tick the outputs show
the phase (60_exceptions.md R196). -/
theorem runEvents_ticks_of_lt {m : CycleMode} {s : State} (hen : s.tickEn = true)
    (hmode : classify params s.inBus = .valid m) (n : Nat) (hlt : s.elapsed.toNat + n < spinEnd m) :
    ∃ t, runEvents (Pseudo.tick n).expand s = .next t ∧ t.tickEn = true ∧ t.inBus = s.inBus ∧
      t.elapsed.toNat = s.elapsed.toNat + n ∧ (0 < n → showsPhaseOf m t) := by
  induction n with
  | zero => exact ⟨s, rfl, hen, rfl, rfl, nofun⟩
  | succ n ih =>
    obtain ⟨u, hrun, huen, hubus, hucount, _⟩ := ih (by omega)
    obtain ⟨t, hlast, hten, htbus, htcount, hshows⟩ :=
      runEvents_tick_of_lt huen (by rw [hubus, hmode]) (by omega)
    refine ⟨t, ?_, hten, htbus.trans hubus, by omega, fun _ => hshows⟩
    rw [expand_tick_succ, runEvents_append_of_next hrun, hlast]

/-- Settles O51: `n` ticks short of the end count, and at the end the last one completes. -/
theorem steadyTicksCountToCompletion : Obligations.SteadyTicksCountToCompletion := by
  refine fun n m s _ hen hmode => ⟨fun hlt => ?_, fun hpos hend => ?_⟩
  · obtain ⟨t, hrun, hten, _, hcount, hshows⟩ := runEvents_ticks_of_lt hen hmode n hlt
    exact ⟨t, hrun, hten, hcount, hshows⟩
  · obtain ⟨k, rfl⟩ : ∃ k, n = k + 1 := ⟨n - 1, by omega⟩
    obtain ⟨u, hrun, huen, hubus, hucount, _⟩ := runEvents_ticks_of_lt hen hmode k (by omega)
    have hlast := runEvents_tick_of_end huen (by rw [hubus, hmode]) (by omega)
    refine ⟨completeCycle params (u.setPending .tick false), ?_, rfl, rfl, rfl, rfl⟩
    rw [expand_tick_succ, runEvents_append_of_next hrun, hlast]

/-! ### What is written to LED and DUTY -/

/-- A phase's mask with that phase's duty, or both off (10_state.md R32). -/
def isPhaseOutput (w : LedMask × Byte) : Prop :=
  (∃ (p : Phase) (e : Byte), w = (gen p e, phaseDuty p)) ∨ w = (0b0000, params.dutyOff)

/-- A step that writes LED and DUTY writes a phase's outputs or both off (10_state.md R32). -/
theorem Takes.isPhaseOutput {i : Instr} {s t : State} (h : Takes s i t)
    (hw : writesLedAndDuty i s = true) : isPhaseOutput (t.led, t.duty) := by
  cases h with
  | startAccepted => exact .inl ⟨.wash, 0, by rw [gen_wash_zero]; rfl⟩
  | reset => exact .inr rfl
  | tickCounted m p => exact .inl ⟨p, _, rfl⟩
  | tickCompleted => exact .inr rfl
  | startIgnored _ _ hmode | tickFrozen _ _ hmode =>
    simp [writesLedAndDuty, State.mode, hmode, Mode.isValid] at hw
  | evStart | evReset | evTick | evRefresh | evIn | sample | write => exact absurd hw nofun

/-- Settles O52: along the run each write is a step's. -/
theorem onlyPhaseOutputsAreWritten : Obligations.OnlyPhaseOutputsAreWritten := by
  intro is
  induction is with
  | nil => exact fun _ _ => nofun
  | cons i is ih =>
    intro s w hw
    cases hexec : exec i s with
    | next t =>
      simp only [ledAndDutyWrites, hexec] at hw
      split at hw
      · next hwrites =>
        rcases List.mem_cons.1 hw with rfl | hrest
        · exact (takes_of_exec hexec).isPhaseOutput hwrites
        · exact ih t w hrest
      · exact ih t w hw
    | fault why => simp [ledAndDutyWrites, hexec] at hw
    | refused why => simp [ledAndDutyWrites, hexec] at hw

/-! ### What is written to DISP -/

/-- Only a write changes the digit, which it toggles (41_events.md R161). -/
theorem digit_of_exec {i : Instr} {s t : State} (hexec : exec i s = .next t) (hi : i ≠ .fgWrite) :
    t.digit = s.digit := by
  obtain ⟨_, _, _, _, _, _, _, _, hdigit, _⟩ := onlyListedWritersChangeAnElement i s t hexec
  exact by_contra fun hne => hi (hdigit hne)

/-- A step keeps the latched byte's digit the one selected (41_events.md R161). -/
theorem Takes.latchMatchesDigit {i : Instr} {s t : State} (hstep : Takes s i t)
    (h : latchMatchesDigit s) : latchMatchesDigit t := by
  cases hstep with
  | sample => exact fun _ => digitOf_displayByte ..
  | write => exact fun hwrite => absurd hwrite nofun
  | evStart | evReset | evTick | evRefresh | evIn | startIgnored | startAccepted | reset
  | tickFrozen | tickCounted | tickCompleted => exact h

/-- The digits written along a run alternate from the one selected (41_events.md R162). -/
theorem map_digitOf_displayWrites (is : List Instr) (s : State) (h : latchMatchesDigit s) :
    (displayWrites is s).map digitOf = alternating (displayWrites is s).length s.digit := by
  induction is generalizing s with
  | nil => rfl
  | cons i is ih =>
    cases hexec : exec i s with
    | fault why => simp [displayWrites, hexec, alternating]
    | refused why => simp [displayWrites, hexec, alternating]
    | next t =>
      have ht := ih t ((takes_of_exec hexec).latchMatchesDigit h)
      by_cases hi : i = .fgWrite
      · subst hi
        obtain ⟨hwrite, rfl⟩ := exec_fgWrite_eq_next.1 hexec
        simp only [displayWrites, hexec, if_pos, List.map_cons, List.length_cons, alternating, ht,
          writeDisplay_disp, writeDisplay_digit, h hwrite]
      · simp only [displayWrites, hexec, if_neg hi, ht, digit_of_exec hexec hi]

/-- Settles O56: the latched byte carries the digit selected along the whole run, and at power-on no byte
is latched. -/
theorem displayDigitsAlternate : Obligations.DisplayDigitsAlternate :=
  ⟨map_digitOf_displayWrites, fun is bus latch display =>
    map_digitOf_displayWrites is _ (powerOnMeetsTheInvariant bus latch display).latch⟩

end Sys2Proof.Machine
end

section
/-!
PROOFS. The liveness of an active cycle under the fairness assumptions (60_exceptions.md R201).
-/
namespace Sys2Proof.Machine

/-- An active cycle that no Reset is about to end, in a state that meets the invariant. -/
structure CountsOn (s : State) : Prop where
  inv : Inv s
  active : s.tickEn = true
  noReset : s.resetPend = false

/-- Without a Reset edge only a completion ends an active cycle (41_events.md R148, R149). -/
theorem Takes.countsOn {i : Instr} {s t : State} (hstep : Takes s i t) (h : CountsOn s)
    (hi : i ≠ .evReset) (hunfinished : t.finished = false) : CountsOn t := by
  have hen := h.active
  have hreset := h.noReset
  have hstays : t.tickEn = true ∧ t.resetPend = false := by
    cases hstep with
    | evReset => exact absurd rfl hi
    | reset hpend => exact absurd (hreset.symm.trans hpend) nofun
    | tickCompleted => exact absurd hunfinished nofun
    | evStart | evTick | evRefresh | evIn | startIgnored | startAccepted | tickFrozen | tickCounted
    | sample | write => simp [hen, hreset]
  exact ⟨hstep.inv h.inv, hstays.1, hstays.2⟩

/-- In an active cycle with no Reset, only the Tick handler clears the Tick latch (10_state.md R20). -/
theorem Takes.tickPend {i : Instr} {s t : State} (hstep : Takes s i t) (h : CountsOn s)
    (hi : i ≠ .isrTick) (hpend : s.tickPend = true) : t.tickPend = true := by
  have hreset := h.noReset
  cases hstep with
  | reset hrpend => exact absurd (hreset.symm.trans hrpend) nofun
  | tickFrozen | tickCounted | tickCompleted => exact absurd rfl hi
  | evStart | evReset | evTick | evRefresh | evIn | startIgnored | startAccepted | sample
  | write => simp [hpend]

section
variable {r : InfiniteRun} (hon : ∀ n, CountsOn (r.state n))
include hon

/-- From each point of a fair run that counts on for ever the Tick handler is taken again: a tick comes,
and its latch stays set until the handler is taken. -/
theorem InfiniteRun.exists_isrTick (hfair : r.Fair) (n : Nat) :
    ∃ m, n ≤ m ∧ r.label m = .isrTick := by
  obtain ⟨k, hnk, hk⟩ := hfair.ticksOccur n fun m _ => (hon m).active
  by_contra hnone
  have hlabel : ∀ m, n ≤ m → r.label m ≠ .isrTick := fun m hm hl => hnone ⟨m, hm, hl⟩
  have hpend : ∀ m, k + 1 ≤ m → (r.state m).tickPend = true := by
    intro m hm
    induction m, hm using Nat.le_induction with
    | base =>
      have hstep := r.steps k
      rw [hk, exec_evTick_of_tickEn (hon k).active, Host.Outcome.next.injEq] at hstep
      rw [← hstep, setPending_tick_tickPend]
    | succ m hm ih =>
      exact (takes_of_exec (r.steps m)).tickPend (hon m) (hlabel m (by omega)) ih
  have hexists : ∀ m, k + 1 ≤ m → stepExists .isrTick (r.state m) = true := fun m hm => by
    rw [stepExists, (hon m).active, hpend m hm]
    rfl
  obtain ⟨m, hkm, hm⟩ := hfair.handlersTaken .isrTick (by decide) (k + 1) hexists
  exact hlabel m (by omega) hm

section
variable (hvalid : ∀ n, classify params (r.state n).inBus ≠ .invalid)
include hvalid

/-- A step of the run moves ELAPSED by 1 if it is the Tick handler's, and not otherwise
(10_state.md R46). -/
theorem InfiniteRun.elapsed_succ (n : Nat) :
    (r.state (n + 1)).elapsed.toNat =
      (r.state n).elapsed.toNat + if r.label n = .isrTick then 1 else 0 := by
  obtain ⟨hkept, _, hcounted⟩ := elapsedNeverFallsWhileActive (r.label n) (r.state n)
    (r.state (n + 1)) (hon n).inv (r.steps n) (hon n).active (hon (n + 1)).active
  split
  · next hi => exact hcounted hi (hvalid n)
  · next hi => rw [hkept hi, Nat.add_zero]

/-- ELAPSED never falls along the run (10_state.md R46). -/
theorem InfiniteRun.elapsed_monotone : Monotone fun n => (r.state n).elapsed.toNat :=
  monotone_nat_of_le_succ fun n => by rw [r.elapsed_succ hon hvalid n]; omega

/-- In a fair run ELAPSED passes every bound. -/
theorem InfiniteRun.exists_le_elapsed (hfair : r.Fair) (bound : Nat) :
    ∃ n, bound ≤ (r.state n).elapsed.toNat := by
  induction bound with
  | zero => exact ⟨0, Nat.zero_le _⟩
  | succ bound ih =>
    obtain ⟨n, hn⟩ := ih
    obtain ⟨m, hnm, hm⟩ := r.exists_isrTick hon hfair n
    have hmono : (r.state n).elapsed.toNat ≤ (r.state m).elapsed.toNat :=
      r.elapsed_monotone hon hvalid hnm
    have hsucc := r.elapsed_succ hon hvalid m
    rw [if_pos hm] at hsucc
    exact ⟨m + 1, by omega⟩

end
end

/-- Settles O53: a run that never finishes counts on for ever, so ELAPSED would pass the bound of the
invariant. -/
theorem fairActiveCycleFinishes : Obligations.FairActiveCycleFinishes := by
  intro r hfair hinv hen hreset hvalid hlabel
  by_contra hnever
  have hunfinished : ∀ n, (r.state n).finished = false := fun n =>
    Bool.eq_false_of_not_eq_true fun hn => hnever ⟨n, hn⟩
  have hon : ∀ n, CountsOn (r.state n) := by
    intro n
    induction n with
    | zero => exact ⟨hinv, hen, hreset⟩
    | succ n ih =>
      exact (takes_of_exec (r.steps n)).countsOn ih (hlabel n) (hunfinished (n + 1))
  obtain ⟨n, hn⟩ := r.exists_le_elapsed hon hvalid hfair 128
  have hbound := (hon n).inv.bounded
  omega

end Sys2Proof.Machine
end

section
/-!
PROOFS. A script's text and its reading (30_encoding.md R85).
-/
namespace Sys2Proof.Machine

/-! ### Cutting a text -/

/-- A piece without a cut, up to a cut, is the first piece of the text. -/
theorem splitAtChars_append_cons {cut : Char → Bool} {c : Char} (hc : cut c = true)
    (rest : List Char) {piece : List Char} (h : ∀ a ∈ piece, cut a = false) :
    splitAtChars cut (piece ++ c :: rest) = piece :: splitAtChars cut rest := by
  induction piece with
  | nil => rw [List.nil_append, splitAtChars, if_pos hc]
  | cons a piece ih =>
    obtain ⟨ha, hpiece⟩ := List.forall_mem_cons.1 h
    rw [List.cons_append, splitAtChars, ha, ih hpiece]
    rfl

/-- A text without a cut is one piece. -/
theorem splitAtChars_of_no_cut {cut : Char → Bool} {text : List Char}
    (h : ∀ a ∈ text, cut a = false) : splitAtChars cut text = [text] := by
  induction text with
  | nil => rfl
  | cons a text ih =>
    obtain ⟨ha, htext⟩ := List.forall_mem_cons.1 h
    rw [splitAtChars, ha, ih htext]
    rfl

/-! ### Hex digits -/

/-- A character that ends neither its word, nor its line's code, nor its line. -/
def isWordChar (a : Char) : Bool := !isBlank a && a != ';' && a != '\n'

/-- What a word's character is not. -/
theorem isWordChar_iff {a : Char} :
    isWordChar a = true ↔ isBlank a = false ∧ (a != ';') = true ∧ (a == '\n') = false := by
  simp [isWordChar, and_assoc]

/-- A hex digit reads as its value, and is a word's character. -/
theorem hexDigit_reads {n : Nat} (h : n < 16) :
    digitValue (hexDigit n) = some n ∧ isWordChar (hexDigit n) = true := by
  revert n; decide

/-- Two hex digits read as the number they stand for. -/
theorem readNumber_two_hex_digits {hi lo : Nat} (hhi : hi < 16) (hlo : lo < 16) :
    readNumber ['0', 'x', hexDigit hi, hexDigit lo] = some (16 * hi + lo) := by
  obtain ⟨hvhi, _⟩ := hexDigit_reads hhi
  obtain ⟨hvlo, _⟩ := hexDigit_reads hlo
  simp [readNumber, readBase, readDigits, hvhi, hvlo, hhi, hlo, Nat.mul_comm]

/-! ### One line -/

/-- The operand of an `ev.in` line. -/
def hexOperand (v : Byte) : List Char :=
  ['0', 'x', hexDigit (v.toNat / 16), hexDigit (v.toNat % 16)]

/-- An `ev.in` line is its mnemonic and its operand (30_encoding.md R85). -/
theorem writeLine_evIn (v : Byte) : writeLine (.evIn v) = evInMnemonic ++ ' ' :: hexOperand v := rfl

/-- An operand is one word. -/
theorem isWordChar_of_mem_hexOperand (v : Byte) : ∀ a ∈ hexOperand v, isWordChar a = true := by
  have hhi := (hexDigit_reads (n := v.toNat / 16) (by omega)).2
  have hlo := (hexDigit_reads (n := v.toNat % 16) (by omega)).2
  refine List.all_eq_true.1 ?_
  simp only [hexOperand, List.all_cons, List.all_nil, hhi, hlo]
  decide

/-- The operand reads back. -/
theorem readNumber_hexOperand (v : Byte) : readNumber (hexOperand v) = some v.toNat := by
  rw [hexOperand, readNumber_two_hex_digits (by omega) (by omega), Nat.div_add_mod]

/-- The mnemonic of `ev.in` is one word. -/
theorem isWordChar_of_mem_evInMnemonic : ∀ a ∈ evInMnemonic, isWordChar a = true :=
  List.all_eq_true.1 (by decide)

/-- A written line holds words and spaces alone. -/
theorem eq_space_or_isWordChar_of_mem_writeLine (i : Instr) :
    ∀ a ∈ writeLine i, a = ' ' ∨ isWordChar a = true := by
  cases i with
  | evIn v =>
    intro a ha
    rw [writeLine_evIn, List.mem_append, List.mem_cons] at ha
    rcases ha with ha | ha | ha
    · exact .inr (isWordChar_of_mem_evInMnemonic a ha)
    · exact .inl ha
    · exact .inr (isWordChar_of_mem_hexOperand v a ha)
  | evStart | evReset | evTick | evRefresh | isrStart | isrReset | isrTick | fgSample | fgWrite =>
    exact fun a ha => .inr (List.all_eq_true.1 (by decide) a ha)

/-- A written line holds no line end and no comment mark. -/
theorem not_end_of_mem_writeLine {i : Instr} {a : Char} (ha : a ∈ writeLine i) :
    (a != ';') = true ∧ (a == '\n') = false := by
  rcases eq_space_or_isWordChar_of_mem_writeLine i a ha with rfl | hword
  · decide
  · exact (isWordChar_iff.1 hword).2

/-- A written line has no comment to drop. -/
theorem withoutComment_writeLine (i : Instr) : withoutComment (writeLine i) = writeLine i :=
  List.takeWhile_eq_self_iff.2 fun _ ha => (not_end_of_mem_writeLine ha).1

/-- The words of an `ev.in` line are its mnemonic and its operand. -/
theorem wordsOf_writeLine_evIn (v : Byte) :
    wordsOf (writeLine (.evIn v)) = [evInMnemonic, hexOperand v] := by
  have hblank {word : List Char} (h : ∀ a ∈ word, isWordChar a = true) (a : Char) (ha : a ∈ word) :
      isBlank a = false := (isWordChar_iff.1 (h a ha)).1
  rw [wordsOf, writeLine_evIn,
    splitAtChars_append_cons (by decide) _ (hblank isWordChar_of_mem_evInMnemonic),
    splitAtChars_of_no_cut (hblank (isWordChar_of_mem_hexOperand v))]
  rfl

/-- The words of an `ev.in` line read as the event (30_encoding.md R85). -/
theorem readEvent_evIn (v : Byte) : readEvent [evInMnemonic, hexOperand v] = some (.evIn v) := by
  simp only [readEvent, if_true, readNumber_hexOperand, if_pos v.isLt, BitVec.ofNat_toNat,
    BitVec.setWidth_eq]

/-- A written line reads as its event (30_encoding.md R85). -/
theorem readLine_writeLine (i : Instr) : readLine (writeLine i) = some [i] := by
  cases i with
  | evIn v => simp only [readLine, withoutComment_writeLine, wordsOf_writeLine_evIn, readEvent_evIn]
  | evStart | evReset | evTick | evRefresh | isrStart | isrReset | isrTick | fgSample | fgWrite =>
    decide

/-! ### A whole text -/

/-- The lines of a written text: one for each event, and an empty one after the last line end. -/
theorem splitAtChars_writeScript (is : List Instr) :
    splitAtChars (fun c => c == '\n') (writeScript is) = is.map writeLine ++ [[]] := by
  induction is with
  | nil => rfl
  | cons i is ih =>
    rw [writeScript, splitAtChars_append_cons rfl _ fun _ ha => (not_end_of_mem_writeLine ha).2, ih]
    rfl

/-- Settles O7: each line of the text reads as its event, and the empty line after the last as none. -/
theorem scriptTextReadsBack : Obligations.ScriptTextReadsBack := by
  intro is
  rw [readScript, splitAtChars_writeScript]
  induction is with
  | nil => rfl
  | cons i is ih =>
    rw [List.map_cons, List.cons_append, readLines, readLine_writeLine, ih]
    rfl

end Sys2Proof.Machine
end
